-- ==== Sys2Proof/Word.lean ====
section
/-! DEFINITION. The word types of the T1640 model: bytes, timestamps, host addresses, tags, and the finite index types of
lanes, rings, slots and port positions (Principal numbers, 00_scope.md). -/

namespace Sys2Proof

/-- One byte of a job entry, a record or a report. -/
abbrev Byte := BitVec 8

/-- A value of the 48-bit timebase, in base ticks (R13). -/
abbrev Stamp := BitVec 48

/-- A host address: 64 bits (00_scope.md, Conventions). -/
abbrev Addr := BitVec 64

/-- The tag a host gives an entry: 16 bits as read from the entry (R44). -/
abbrev Tag := BitVec 16

/-- Lanes are numbered 0 to 15. -/
abbrev LaneId := Fin 16

/-- Job rings and report rings are numbered 0 to 7. -/
abbrev RingId := Fin 8

/-- Job slots are numbered 0 to 63 (R44). -/
abbrev SlotId := Fin 64

/-- An interrupt vector, 0 to 15 (R125). -/
abbrev Vec := BitVec 4

end Sys2Proof
end

