-- ==== Sys2Proof/Config.lean ====
section
/-! DEFINITION. The numbers the manual fixes (00_scope.md, Principal numbers), and the one value it leaves to the
outside world that `State.reset` needs: the levels of the lane pins at power-on (log entry 1). The manual leaves no
result of any command undefined, so there is no free value here. -/

namespace Sys2Proof.Config

/-- Waiting jobs a lane queue holds at most (R50). -/
def laneQueueDepth : Nat := 8

/-- Records a staging FIFO holds at most (R70). -/
def stagingDepth : Nat := 4

/-- Queued buffers of a job besides its current one (R75). -/
def queuedBufferDepth : Nat := 4

/-- PROGRESS reports of a job that may wait before retirements are merged (R133). -/
def progressDepth : Nat := 3

/-- Event reports the event list of report ring 0 holds at most (R138). -/
def eventListDepth : Nat := 8

/-- FREE slots a fetch from job rings 1 to 7 needs; it leaves 4 for ring 0 (R110). -/
def ioFetchFreeSlots : Nat := 5

/-- Smallest and largest ring size in entries or places (R149, R152, R177). -/
def ringSizeMin : Nat := 2
def ringSizeMax : Nat := 4096

/-- Base ticks per millisecond of a start limit (R15). -/
def ticksPerMs : Nat := 100000

/-- Base ticks per unit of coalescing time, 100 µs (R15). -/
def ticksPerCoalescingUnit : Nat := 10000

/-- The tag value that is never a tag (R121 step 2, R147 step 2). -/
def noTag : Tag := 0xFFFF

/-- DESIGN CHOICE (log entry 1; unsafe). The levels of LANE0 to LANE15 in `State.reset`: the pins are driven from
outside the part and the manual gives them no level at power-on. `POWER_ON` carries the levels of its first sample. -/
def linesAtReset : BitVec 16 := 0

end Sys2Proof.Config
end

