-- ==== Sys2Proof/Syntax.lean ====
section
/-! DEFINITION. The commands of the T1640 and their operands: one constructor of `Instr` for each row of
spec/opcode_table.json. The operands of a fetched entry are its fields as read at the offsets of section 11.1, each at
the width its bytes give it, so that every value a host can write is an operand; the reserved bytes, which the
Dispatcher ignores (R183), are no operands. -/

namespace Sys2Proof

/-- The polarity of a transition of the conditioned line (R1). -/
inductive Polarity where
  | rise
  | fall
  deriving DecidableEq, Repr

/-- The five measurement kinds (chapter 2). -/
inductive MeasKind where
  | width
  | cycles
  | span
  | tally
  | quiet
  deriving DecidableEq, Repr

/-- The sixteen kinds of job entry (R120); their codes are in Machine/Codes.lean. -/
inductive EntryKind where
  | width
  | cycles
  | span
  | tally
  | quiet
  | addBuffer
  | openJobRing
  | closeJobRing
  | openReportRing
  | closeReportRing
  | setLane
  | claimLane
  | holdLane
  | releaseLane
  | cancelJob
  | peekJob
  deriving DecidableEq, Repr

/-- The fields of a measurement entry (section 11.1). Fields that a kind does not use are read and ignored (R18, R183). -/
structure MeasEntry where
  tag : Tag := 0
  adjoin : Bool := false
  bandEnable : Bool := false
  stopOnBand : Bool := false
  lane : Byte := 0
  partner : Byte := 0
  startSpec : Byte := 0
  stopSpec : Byte := 0
  prescale : Byte := 0
  repeatCount : BitVec 16 := 0
  startLimit : BitVec 16 := 0
  divider : BitVec 16 := 0
  window : BitVec 32 := 0
  bandLow : BitVec 32 := 0
  bandHigh : BitVec 32 := 0
  capacity : BitVec 16 := 0
  address : Addr := 0
  deriving DecidableEq, Repr

/-- The fields of an ADD_BUFFER entry (section 11.1). -/
structure AddBufferEntry where
  tag : Tag := 0
  target : Tag := 0
  capacity : BitVec 16 := 0
  address : Addr := 0
  deriving DecidableEq, Repr

/-- The fields of an OPEN_REPORT_RING entry. -/
structure OpenReportRingEntry where
  tag : Tag := 0
  id : Byte := 0
  vector : Byte := 0
  coalescingCount : Byte := 0
  coalescingTime : Byte := 0
  size : BitVec 16 := 0
  base : Addr := 0
  deriving DecidableEq, Repr

/-- The fields of an OPEN_JOB_RING entry. -/
structure OpenJobRingEntry where
  tag : Tag := 0
  id : Byte := 0
  reportRing : Byte := 0
  weight : Byte := 0
  size : BitVec 16 := 0
  base : Addr := 0
  deriving DecidableEq, Repr

/-- The fields of CLOSE_JOB_RING and CLOSE_REPORT_RING entries. -/
structure CloseRingEntry where
  tag : Tag := 0
  id : Byte := 0
  deriving DecidableEq, Repr

/-- The fields of a SET_LANE entry. -/
structure SetLaneEntry where
  tag : Tag := 0
  lane : Byte := 0
  filter : Byte := 0
  invert : Byte := 0
  deriving DecidableEq, Repr

/-- The fields of a CLAIM_LANE entry. -/
structure ClaimLaneEntry where
  tag : Tag := 0
  lane : Byte := 0
  ring : Byte := 0
  deriving DecidableEq, Repr

/-- The fields of HOLD_LANE and RELEASE_LANE entries. -/
structure LaneEntry where
  tag : Tag := 0
  lane : Byte := 0
  deriving DecidableEq, Repr

/-- The fields of CANCEL_JOB and PEEK_JOB entries. -/
structure JobNameEntry where
  tag : Tag := 0
  ring : Byte := 0
  target : Tag := 0
  deriving DecidableEq, Repr

/-- The width of a host access to the register window; only 32-bit accesses are taken (R172). -/
inductive AccessWidth where
  | byte
  | half
  | word
  | double
  deriving DecidableEq, Repr

/-- The commands: one constructor per row of spec/opcode_table.json. -/
inductive Instr where
  /-- An arrival formed on a lane is taken, with the two fields it carries (R4, R6). -/
  | edgeArrival (lane : LaneId) (polarity : Polarity) (stamp : Stamp)
  /-- The oldest arrival of the alignment list of the SPAN on this primary lane falls due (R35). -/
  | alignedArrivalDue (lane : LaneId)
  /-- The window-end expiry of the context on this lane (R40, R42). -/
  | windowEndExpiry (lane : LaneId)
  /-- The overflow bound of the context on this lane (R30, R33, R37). -/
  | overflowBoundExpiry (lane : LaneId)
  /-- The start-limit timer of this slot (R26). -/
  | startLimitExpiry (slot : SlotId)
  /-- The coalescing timer of this report ring's poster (R143). -/
  | coalescingTimerExpiry (ring : RingId)
  /-- The fetch read in flight completes with a WIDTH entry (R115, R121). -/
  | width (e : MeasEntry)
  /-- The fetch read in flight completes with a CYCLES entry. -/
  | cycles (e : MeasEntry)
  /-- The fetch read in flight completes with a SPAN entry. -/
  | span (e : MeasEntry)
  /-- The fetch read in flight completes with a TALLY entry. -/
  | tally (e : MeasEntry)
  /-- The fetch read in flight completes with a QUIET entry. -/
  | quiet (e : MeasEntry)
  /-- The fetch read in flight completes with an ADD_BUFFER entry (R79). -/
  | addBuffer (e : AddBufferEntry)
  /-- The fetch read in flight completes with an OPEN_REPORT_RING entry (R149). -/
  | openReportRing (e : OpenReportRingEntry)
  /-- The fetch read in flight completes with a CLOSE_REPORT_RING entry (R151). -/
  | closeReportRing (e : CloseRingEntry)
  /-- The fetch read in flight completes with an OPEN_JOB_RING entry (R152). -/
  | openJobRing (e : OpenJobRingEntry)
  /-- The fetch read in flight completes with a CLOSE_JOB_RING entry (R154). -/
  | closeJobRing (e : CloseRingEntry)
  /-- The fetch read in flight completes with a SET_LANE entry (R158). -/
  | setLane (e : SetLaneEntry)
  /-- The fetch read in flight completes with a CLAIM_LANE entry (R159). -/
  | claimLane (e : ClaimLaneEntry)
  /-- The fetch read in flight completes with a HOLD_LANE entry (R90). -/
  | holdLane (e : LaneEntry)
  /-- The fetch read in flight completes with a RELEASE_LANE entry (R95). -/
  | releaseLane (e : LaneEntry)
  /-- The fetch read in flight completes with a CANCEL_JOB entry (R97). -/
  | cancelJob (e : JobNameEntry)
  /-- The fetch read in flight completes with a PEEK_JOB entry (R102). -/
  | peekJob (e : JobNameEntry)
  /-- The fetch read in flight completes with an entry whose kind code is undefined (R120). -/
  | undefinedKindEntry (code : Byte) (tag : Tag)
  /-- The fetch read in flight completes with a fault (R117). -/
  | fetchReadFault
  /-- The write of the record in this lane's write slot completes (R77). -/
  | recordWriteCompletion (lane : LaneId)
  /-- The write of the record in this lane's write slot faults (R82). -/
  | recordWriteFault (lane : LaneId)
  /-- The oldest loan message in flight from `src` to `dst`, a loan request, is taken (R56). -/
  | loanRequest (src dst : LaneId)
  /-- The oldest loan message in flight from `src` to `dst`, a grant, is taken (R58). -/
  | grant (src dst : LaneId)
  /-- The oldest loan message in flight from `src` to `dst`, a defer, is taken (R59). -/
  | defer (src dst : LaneId)
  /-- The oldest loan message in flight from `src` to `dst`, a withdraw, is taken (R60). -/
  | withdraw (src dst : LaneId)
  /-- The oldest loan message in flight from `src` to `dst`, a return, is taken (R61). -/
  | loanReturn (src dst : LaneId)
  /-- The oldest loan message in flight from `src` to `dst`, a place-open notice, is taken (R59). -/
  | placeOpenNotice (src dst : LaneId)
  /-- The report write in flight of this ring completes (R136). -/
  | reportWriteCompletion (ring : RingId)
  /-- The report write in flight of this ring, 1 to 7, faults (R165). -/
  | reportWriteFault (ring : RingId)
  /-- The report write in flight of report ring 0 faults (R167). -/
  | ring0ReportWriteFault
  /-- The link accepts the write the Host Write Port granted last (R141). -/
  | writeAcceptance
  /-- The host writes a word to JOB_TAIL[ring] (R107). -/
  | jobTailWrite (ring : RingId) (value : BitVec 32)
  /-- The host writes a word to RPT_HEAD[ring] (R128). -/
  | rptHeadWrite (ring : RingId) (value : BitVec 32)
  /-- The host reads TIME_LO (R14). -/
  | timeLoRead
  /-- The host writes CTRL with enable 1 and the given interrupt enable (R173, R177). -/
  | startUp (interruptEnable : Bool)
  /-- The host writes CTRL with enable 0 and the given interrupt enable (R173, R179). -/
  | stop (interruptEnable : Bool)
  /-- The last outstanding access of a stop is finished (R180). -/
  | stopEnd
  /-- The host writes CTRL with interrupt enable 1 and the given enable (R144, R173). -/
  | interruptEnableSet (enable : Bool)
  /-- The host writes CTRL with interrupt enable 0 and the given enable (R173). -/
  | interruptEnableClear (enable : Bool)
  /-- The host writes to an offset of the register window (R172). -/
  | registerWrite (offset : BitVec 12) (accessWidth : AccessWidth) (value : BitVec 32)
  /-- Power-on; the levels are those of the first sample of the sixteen lanes (R3, R182). -/
  | powerOn (levels : BitVec 16)
  /-- A PCIe reset of the function while power stays on (R182). -/
  | pcieReset
  /-- One period of the reference clock; the levels are those the sampler sees at the new tick (R1, R2, R13). -/
  | baseTick (levels : BitVec 16)
  deriving DecidableEq, Repr

end Sys2Proof
end

