-- ==== Sys2Proof/Machine/Codes.lean ====
section
/-! DEFINITION. The kind codes of job entries (section 11.5). -/

namespace Sys2Proof.Machine

/-- The kind code of each entry kind (section 11.5). -/
def kindCode : EntryKind → Byte
  | .width => 0x01
  | .cycles => 0x02
  | .span => 0x03
  | .tally => 0x04
  | .quiet => 0x05
  | .addBuffer => 0x10
  | .openJobRing => 0x20
  | .closeJobRing => 0x21
  | .openReportRing => 0x22
  | .closeReportRing => 0x23
  | .setLane => 0x24
  | .claimLane => 0x25
  | .holdLane => 0x26
  | .releaseLane => 0x27
  | .cancelJob => 0x28
  | .peekJob => 0x29

/-- Every entry kind, in the order of section 11.5's table. -/
def entryKinds : List EntryKind :=
  [.width, .cycles, .span, .tally, .quiet, .addBuffer, .openJobRing, .closeJobRing, .openReportRing,
   .closeReportRing, .setLane, .claimLane, .holdLane, .releaseLane, .cancelJob, .peekJob]

/-- The entry kind a code names; a code that is not in the table is undefined (R120). -/
def kindOfCode (code : Byte) : Option EntryKind :=
  entryKinds.find? fun k => kindCode k == code

/-- The entry kind of a measurement kind. -/
def entryKindOf : MeasKind → EntryKind
  | .width => .width
  | .cycles => .cycles
  | .span => .span
  | .tally => .tally
  | .quiet => .quiet

end Sys2Proof.Machine
end

