-- ==== Sys2Proof/Decode.lean ====
section
/-! DEFINITION. What a word or an entry of host memory spells. The opcode table gives no row bits, so no word of it
spells a command (`decodeTableWord`). The 64 bytes of a job entry do spell one (section 11.1, R183): `decodeEntry` reads
them, total on any bytes, and `encodeEntry` writes them. An entry is a bit vector with byte 0 in its lowest eight bits,
so the field at byte offset o of n bytes is bits 8o to 8o + 8n − 1 (little-endian). -/

namespace Sys2Proof

/-- The command a word spells by the bits of spec/opcode_table.json: none, since no row of the table has bits (log
entry 19). -/
def decodeTableWord (_nbits _w : Nat) : Option Instr := none

/-- A job entry in host memory. -/
abbrev EntryBytes := BitVec 512

/-- The byte at an offset. -/
def EntryBytes.byte (b : EntryBytes) (offset : Nat) : Byte := b.extractLsb' (8 * offset) 8

/-- The two, four or eight bytes from an offset, as a little-endian number. -/
def EntryBytes.half (b : EntryBytes) (offset : Nat) : BitVec 16 := b.extractLsb' (8 * offset) 16

def EntryBytes.word (b : EntryBytes) (offset : Nat) : BitVec 32 := b.extractLsb' (8 * offset) 32

def EntryBytes.quad (b : EntryBytes) (offset : Nat) : BitVec 64 := b.extractLsb' (8 * offset) 64

/-- The fields of a measurement entry, at their offsets (section 11.1). -/
def decodeMeasurement (b : EntryBytes) : MeasEntry :=
  { tag := b.half 2
    adjoin := b.getLsbD 8
    bandEnable := b.getLsbD 9
    stopOnBand := b.getLsbD 10
    lane := b.byte 4
    partner := b.byte 5
    startSpec := b.byte 6
    stopSpec := b.byte 7
    prescale := b.byte 8
    repeatCount := b.half 10
    startLimit := b.half 12
    divider := b.half 14
    window := b.word 16
    bandLow := b.word 20
    bandHigh := b.word 24
    capacity := b.half 28
    address := b.quad 32 }

def decodeAddBuffer (b : EntryBytes) : AddBufferEntry :=
  { tag := b.half 2, target := b.half 4, capacity := b.half 6, address := b.quad 8 }

def decodeOpenReportRing (b : EntryBytes) : OpenReportRingEntry :=
  { tag := b.half 2
    id := b.byte 4
    vector := b.byte 5
    coalescingCount := b.byte 6
    coalescingTime := b.byte 7
    size := b.half 8
    base := b.quad 16 }

def decodeOpenJobRing (b : EntryBytes) : OpenJobRingEntry :=
  { tag := b.half 2
    id := b.byte 4
    reportRing := b.byte 5
    weight := b.byte 6
    size := b.half 8
    base := b.quad 16 }

def decodeCloseRing (b : EntryBytes) : CloseRingEntry := { tag := b.half 2, id := b.byte 4 }

def decodeSetLane (b : EntryBytes) : SetLaneEntry :=
  { tag := b.half 2, lane := b.byte 4, filter := b.byte 5, invert := b.byte 6 }

def decodeClaimLane (b : EntryBytes) : ClaimLaneEntry := { tag := b.half 2, lane := b.byte 4, ring := b.byte 5 }

def decodeLane (b : EntryBytes) : LaneEntry := { tag := b.half 2, lane := b.byte 4 }

def decodeJobName (b : EntryBytes) : JobNameEntry := { tag := b.half 2, ring := b.byte 4, target := b.half 6 }

/-- The command that the completion of a fetch read with these 64 bytes is: its fields at the offsets of its kind code,
every other byte and bit ignored (R183); an undefined code spells an entry of undefined kind (R120). -/
def decodeEntry (b : EntryBytes) : Instr :=
  match Machine.kindOfCode (b.byte 0) with
  | some .width => .width (decodeMeasurement b)
  | some .cycles => .cycles (decodeMeasurement b)
  | some .span => .span (decodeMeasurement b)
  | some .tally => .tally (decodeMeasurement b)
  | some .quiet => .quiet (decodeMeasurement b)
  | some .addBuffer => .addBuffer (decodeAddBuffer b)
  | some .openJobRing => .openJobRing (decodeOpenJobRing b)
  | some .closeJobRing => .closeJobRing (decodeCloseRing b)
  | some .openReportRing => .openReportRing (decodeOpenReportRing b)
  | some .closeReportRing => .closeReportRing (decodeCloseRing b)
  | some .setLane => .setLane (decodeSetLane b)
  | some .claimLane => .claimLane (decodeClaimLane b)
  | some .holdLane => .holdLane (decodeLane b)
  | some .releaseLane => .releaseLane (decodeLane b)
  | some .cancelJob => .cancelJob (decodeJobName b)
  | some .peekJob => .peekJob (decodeJobName b)
  | none => .undefinedKindEntry (b.byte 0) (b.half 2)

/-! ### The bytes of an entry, reserved ones 0 -/

/-- The option bits: bit 0 adjoin, 1 band enable, 2 stop-on-band (section 11.1). -/
def optionBits (e : MeasEntry) : Byte :=
  0#5 ++ BitVec.ofBool e.stopOnBand ++ BitVec.ofBool e.bandEnable ++ BitVec.ofBool e.adjoin

def encodeMeasurement (code : Byte) (e : MeasEntry) : EntryBytes :=
  0#192 ++ e.address ++ 0#16 ++ e.capacity ++ e.bandHigh ++ e.bandLow ++ e.window ++ e.divider ++ e.startLimit
    ++ e.repeatCount ++ 0#8 ++ e.prescale ++ e.stopSpec ++ e.startSpec ++ e.partner ++ e.lane ++ e.tag ++ optionBits e
    ++ code

def encodeAddBuffer (e : AddBufferEntry) : EntryBytes :=
  0#384 ++ e.address ++ e.capacity ++ e.target ++ e.tag ++ 0#8 ++ Machine.kindCode .addBuffer

def encodeOpenReportRing (e : OpenReportRingEntry) : EntryBytes :=
  0#320 ++ e.base ++ 0#48 ++ e.size ++ e.coalescingTime ++ e.coalescingCount ++ e.vector ++ e.id ++ e.tag ++ 0#8
    ++ Machine.kindCode .openReportRing

def encodeOpenJobRing (e : OpenJobRingEntry) : EntryBytes :=
  0#320 ++ e.base ++ 0#48 ++ e.size ++ 0#8 ++ e.weight ++ e.reportRing ++ e.id ++ e.tag ++ 0#8
    ++ Machine.kindCode .openJobRing

def encodeCloseRing (code : Byte) (e : CloseRingEntry) : EntryBytes := 0#472 ++ e.id ++ e.tag ++ 0#8 ++ code

def encodeSetLane (e : SetLaneEntry) : EntryBytes :=
  0#456 ++ e.invert ++ e.filter ++ e.lane ++ e.tag ++ 0#8 ++ Machine.kindCode .setLane

def encodeClaimLane (e : ClaimLaneEntry) : EntryBytes :=
  0#464 ++ e.ring ++ e.lane ++ e.tag ++ 0#8 ++ Machine.kindCode .claimLane

def encodeLane (code : Byte) (e : LaneEntry) : EntryBytes := 0#472 ++ e.lane ++ e.tag ++ 0#8 ++ code

def encodeJobName (code : Byte) (e : JobNameEntry) : EntryBytes :=
  0#448 ++ e.target ++ 0#8 ++ e.ring ++ e.tag ++ 0#8 ++ code

/-- The entry of a command that is the completion of a fetch read; the other commands have no entry. -/
def encodeEntry : Instr → Option EntryBytes
  | .width e => some (encodeMeasurement (Machine.kindCode .width) e)
  | .cycles e => some (encodeMeasurement (Machine.kindCode .cycles) e)
  | .span e => some (encodeMeasurement (Machine.kindCode .span) e)
  | .tally e => some (encodeMeasurement (Machine.kindCode .tally) e)
  | .quiet e => some (encodeMeasurement (Machine.kindCode .quiet) e)
  | .addBuffer e => some (encodeAddBuffer e)
  | .openReportRing e => some (encodeOpenReportRing e)
  | .closeReportRing e => some (encodeCloseRing (Machine.kindCode .closeReportRing) e)
  | .openJobRing e => some (encodeOpenJobRing e)
  | .closeJobRing e => some (encodeCloseRing (Machine.kindCode .closeJobRing) e)
  | .setLane e => some (encodeSetLane e)
  | .claimLane e => some (encodeClaimLane e)
  | .holdLane e => some (encodeLane (Machine.kindCode .holdLane) e)
  | .releaseLane e => some (encodeLane (Machine.kindCode .releaseLane) e)
  | .cancelJob e => some (encodeJobName (Machine.kindCode .cancelJob) e)
  | .peekJob e => some (encodeJobName (Machine.kindCode .peekJob) e)
  | .undefinedKindEntry code tag => some (0#480 ++ tag ++ 0#8 ++ code)
  | .edgeArrival _ _ _ => none
  | .alignedArrivalDue _ => none
  | .windowEndExpiry _ => none
  | .overflowBoundExpiry _ => none
  | .startLimitExpiry _ => none
  | .coalescingTimerExpiry _ => none
  | .fetchReadFault => none
  | .recordWriteCompletion _ => none
  | .recordWriteFault _ => none
  | .loanRequest _ _ => none
  | .grant _ _ => none
  | .defer _ _ => none
  | .withdraw _ _ => none
  | .loanReturn _ _ => none
  | .placeOpenNotice _ _ => none
  | .reportWriteCompletion _ => none
  | .reportWriteFault _ => none
  | .ring0ReportWriteFault => none
  | .writeAcceptance => none
  | .jobTailWrite _ _ => none
  | .rptHeadWrite _ _ => none
  | .timeLoRead => none
  | .startUp _ => none
  | .stop _ => none
  | .stopEnd => none
  | .interruptEnableSet _ => none
  | .interruptEnableClear _ => none
  | .registerWrite _ _ _ => none
  | .powerOn _ => none
  | .pcieReset => none
  | .baseTick _ => none

end Sys2Proof
end

