-- ==== Sys2Proof/Machine/State.lean ====
section
/-! DEFINITION. Every piece of state the manual gives the T1640, block by block (00_scope.md, Block diagram), as plain
data, and `State.reset`, the part right after power-on (R182). The default value of a field is its value after
power-on. -/

namespace Sys2Proof.Machine

/-- The stops of a command that a run could meet. The manual gives every command an effect in every state, so the model
has no fault. -/
inductive Fault where
  deriving DecidableEq, Repr

/-- The commands the model gives no meaning. -/
inductive Refusal where
  /-- Raised by `exec` for a row whose meaning is not written yet. Safe. No arm answers it. -/
  | notModelled (mnemonic : String)
  /-- Raised by UNDEFINED_KIND_ENTRY for an ill-formed term, one whose code is a defined kind code (R120): the term
  spells no event of the part, since a defined kind has a row of its own with the fields of that kind. Safe. -/
  | kindCodeDefined (code : Byte)
  deriving DecidableEq, Repr

/-! ### Controller, register window -/

/-- The controller state (R174). -/
inductive CtlState where
  | off
  | running
  | stopping
  | fatal
  deriving DecidableEq, Repr

/-- STAT's fatal cause (R167, R174). -/
inductive FatalCause where
  | none
  | finalWrite
  | eventWrite
  deriving DecidableEq, Repr

/-- One access the part has issued and that is not finished: the outstanding-access count of R180 is the number of
these. `message` is an interrupt message granted and not yet accepted. -/
inductive Access where
  | fetch
  | record (lane : LaneId)
  | report (ring : RingId)
  | message
  deriving DecidableEq, Repr

/-! ### Lanes -/

/-- An edge arrival: its polarity and its timestamp (R4). -/
structure Arrival where
  polarity : Polarity
  stamp : Stamp
  deriving DecidableEq, Repr

/-- The primary lane, the slot and the loan number that name one loan request (R54). `ring` and `tag` are the model's
own fields: the job ring and tag of the SPAN that asks, which R93 and R159 read also when that SPAN has left its slot
and another entry stands there (log entry 22). -/
structure Loan where
  primary : LaneId
  slot : SlotId
  number : BitVec 8
  ring : RingId
  tag : Tag
  deriving DecidableEq, Repr

/-- The six loan messages (R54). -/
inductive LoanMsgKind where
  | request
  | grant
  | defer
  | withdraw
  | return
  | placeOpen
  deriving DecidableEq, Repr

/-- A loan message in flight between two lanes (R54). -/
structure LoanMsg where
  src : LaneId
  dst : LaneId
  kind : LoanMsgKind
  loan : Loan
  deriving DecidableEq, Repr

/-- The loan phase of the SPAN at a lane's head (R54). -/
inductive LoanPhase where
  | idle
  | asked
  | deferred
  deriving DecidableEq, Repr

/-- The phase of a measurement context (R20). -/
inductive Phase where
  | armed
  | measuring
  | window
  | held
  deriving DecidableEq, Repr

/-- The two kinds of lane-side expiry (section 1.4). -/
inductive ExpiryKind where
  | overflow
  | windowEnd
  deriving DecidableEq, Repr

/-- A scheduled lane-side expiry: its nominal instant and the instant it is due, later by the settle interval (R9). -/
structure Expiry where
  kind : ExpiryKind
  nominal : Stamp
  due : Stamp
  deriving DecidableEq, Repr

/-- The measurement context of an active job (R20), with the partner-held mark of a SPAN (R89). -/
structure Context where
  phase : Phase := .armed
  acceptFrom : Stamp := 0
  startTs : Stamp := 0
  edgeCounter : BitVec 32 := 0
  saturated : Bool := false
  firstEdge : Option (BitVec 32) := none
  windowEnd : Stamp := 0
  pending : Option Expiry := none
  alignment : List (LaneId × Arrival) := []
  partnerHeld : Bool := false
  deriving DecidableEq, Repr

/-- The flags of a measurement and the flags seen of a slot (R21, R44). -/
structure MeasFlags where
  overflow : Bool := false
  bandLow : Bool := false
  bandHigh : Bool := false
  edgeSeen : Bool := false
  deriving DecidableEq, Repr

/-- A result record inside the part: the fields of R71, its slot and its place address. -/
structure ResultRecord where
  slot : SlotId
  place : Addr
  index : BitVec 64
  value : BitVec 32
  aux : BitVec 32
  startTs : Stamp
  endTs : Stamp
  flags : MeasFlags
  afterLoss : Bool
  lostBefore : BitVec 16
  deriving DecidableEq, Repr

/-- A drain mark: the HOLD_LANE's slot and the marked record, named by its slot and index (R92). -/
structure DrainMark where
  holder : SlotId
  recordSlot : SlotId
  recordIndex : BitVec 64
  deriving DecidableEq, Repr

/-- One Lane Engine (R16, R54, R70, R92). `formed` is the model's own field: the arrivals its filter has formed whose
EDGE_ARRIVAL has not been taken yet, oldest first (log entry 2). `partnerMark` is the partner-held mark on the SPAN at
the queue head (R62). -/
structure Lane where
  filterWidth : Byte := 0
  invert : Bool := false
  filtered : Bool := false
  candidate : Option Stamp := none
  formed : List Arrival := []
  owner : Option RingId := none
  hold : Bool := false
  queue : List SlotId := []
  active : Option SlotId := none
  lentTo : Option Loan := none
  place : Option Loan := none
  loanPhase : LoanPhase := .idle
  loanNumber : BitVec 8 := 0
  partnerMark : Bool := false
  ctx : Option Context := none
  fifo : List ResultRecord := []
  writeSlot : Option ResultRecord := none
  drainMarks : List DrainMark := []
  deriving DecidableEq, Repr

/-! ### Job Table -/

/-- The slot states (R44). -/
inductive SlotState where
  | free
  | fetching
  | pending
  | active
  | draining
  | waiting
  | posting
  deriving DecidableEq, Repr

/-- The statuses of section 11.5. -/
inductive Status where
  | ok
  | bandStop
  | startTimeout
  | cancelled
  | ringClosed
  | writeFault
  | badKind
  | badField
  | badLane
  | badBuffer
  | dupTag
  | notOwner
  | queueFull
  | notFound
  | tooLate
  | listFull
  | ringExists
  | noRing
  | inUse
  | laneBusy
  | alreadyHeld
  | notHeld
  deriving DecidableEq, Repr

/-- A result buffer: base address and capacity in records (R75). -/
structure Buffer where
  base : Addr
  capacity : BitVec 16
  deriving DecidableEq, Repr

/-- The decoded measurement job of a slot (R44). -/
structure Job where
  kind : MeasKind
  fields : MeasEntry
  deriving DecidableEq, Repr

/-- The decoded fields of an ADD_BUFFER or of a control request (R44). -/
inductive Request where
  | addBuffer (e : AddBufferEntry)
  | openReportRing (e : OpenReportRingEntry)
  | closeReportRing (e : CloseRingEntry)
  | openJobRing (e : OpenJobRingEntry)
  | closeJobRing (e : CloseRingEntry)
  | setLane (e : SetLaneEntry)
  | claimLane (e : ClaimLaneEntry)
  | holdLane (e : LaneEntry)
  | releaseLane (e : LaneEntry)
  | cancelJob (e : JobNameEntry)
  | peekJob (e : JobNameEntry)
  deriving DecidableEq, Repr

/-- What a slot takes from its entry when the entry arrives: kind, tag, and the decoded fields of a measurement job or
of a request; an entry of undefined kind has no decoded fields (R44, R115, R120). -/
structure Entry where
  kindCode : Byte
  tag : Tag
  job : Option Job := none
  request : Option Request := none
  deriving DecidableEq, Repr

/-- The contents proper to a FINAL, by the kind of its entry (sections 11.3, R84 and the rule of each request). -/
inductive FinalBody where
  /-- An entry whose FINAL has no contents of its own (an undefined kind, R123). -/
  | empty
  | measurement (flagsSeen : MeasFlags) (writeFaulted : Bool) (partialRecords : BitVec 16) (unusedBuffers : Byte)
      (lost : BitVec 32) (written : BitVec 64) (buffersRetired : BitVec 32)
  | addBuffer (target : Tag) (position : Byte)
  | openReportRing (id : Byte) (size : BitVec 16)
  | openJobRing (id : Byte) (bound : Byte) (size : BitVec 16)
  | closeReportRing (id : Byte) (head tail : BitVec 16)
  | closeJobRing (ring : Byte) (ended : Byte) (waited stoppedHead : BitVec 16)
  | setLane (lane filter invert : Byte)
  | claimLane (lane before after : Byte)
  | holdLane (lane ring : Byte) (tag : Tag) (abandoned : Bool)
  | releaseLane (lane ring : Byte) (tag : Tag)
  | cancelJob (ring found : Byte) (tag : Tag)
  | peekJob (ring state : Byte) (tag : Tag) (queued : Byte) (produced written : BitVec 64) (lost : BitVec 32)
  deriving DecidableEq, Repr

/-- The contents of a PROGRESS or of a FINAL (R78, R84, R131). -/
inductive ReportBody where
  | progress (address : Addr) (records buffersRetired : BitVec 32)
  | final (status : Status) (body : FinalBody)
  deriving DecidableEq, Repr

/-- A report in a slot's report list (R131). `sequence` and `ringHead` are filled at the issue of its write (R135). -/
structure Report where
  kindCode : Byte
  tag : Tag
  ring : RingId
  body : ReportBody
  inFlight : Bool := false
  sequence : BitVec 16 := 0
  ringHead : BitVec 16 := 0
  deriving DecidableEq, Repr

/-- What a WAITING request waits for, with the contents its FINAL will carry (R92, R93, R99, R100, R156). -/
inductive Wait where
  | none
  /-- A HOLD_LANE: the drain marks still set; its lane, and the job found with whether it abandoned anything. -/
  | hold (marks : Nat) (lane ring : Byte) (tag : Tag) (abandoned : Bool)
  /-- A CANCEL_JOB: the ring and tag it named, and the target's state at the lookup. -/
  | cancel (ring : Byte) (tag : Tag) (found : SlotState)
  /-- A CLOSE_JOB_RING: its ring, the remaining count, and the counts its FINAL reports. -/
  | close (ring : RingId) (remaining ended waited : Nat)
  deriving DecidableEq, Repr

/-- A slot of the Job Table (R44, R46). `job` and `request` are its decoded fields. -/
structure Slot where
  state : SlotState := .free
  ring : RingId := 0
  tag : Tag := 0
  kindCode : Byte := 0
  job : Option Job := none
  request : Option Request := none
  stagingLane : Option LaneId := none
  produced : BitVec 64 := 0
  written : BitVec 64 := 0
  lost : BitVec 32 := 0
  lostSinceRecord : BitVec 16 := 0
  reserved : BitVec 16 := 0
  landed : BitVec 16 := 0
  buffersRetired : BitVec 32 := 0
  outstanding : BitVec 8 := 0
  flagsSeen : MeasFlags := {}
  current : Option Buffer := none
  queued : List Buffer := []
  landing : List Buffer := []
  reports : List Report := []
  startTimer : Option Stamp := none
  endStatus : Option Status := none
  writeFaultMark : Bool := false
  cancelWaiter : Option SlotId := none
  wait : Wait := .none
  deriving DecidableEq, Repr

/-- One entry of a tag map (R48). -/
structure TagEntry where
  tag : Tag
  slot : SlotId
  deriving DecidableEq, Repr

/-! ### Fetch Unit -/

/-- The states of a job ring (R105). -/
inductive JobRingState where
  | closed
  | open
  | faulted
  | closing
  deriving DecidableEq, Repr

/-- The Fetch Unit's record of a job ring (R105). `closer` is the slot of the CLOSE_JOB_RING that waits for the ring
(R156). -/
structure JobRing where
  state : JobRingState := .closed
  base : Addr := 0
  size : Nat := 0
  head : Nat := 0
  tail : Nat := 0
  bound : RingId := 0
  weight : Nat := 1
  credit : Nat := 0
  closer : Option SlotId := none
  deriving DecidableEq, Repr

/-- The fetch-in-flight record (R105, R114). -/
structure FetchRecord where
  ring : RingId
  index : Nat
  slot : SlotId
  deriving DecidableEq, Repr

/-! ### Report Posters, Host Write Port -/

/-- The states of a report ring (R125). -/
inductive ReportRingState where
  | closed
  | open
  | faulted
  deriving DecidableEq, Repr

/-- Where the report of a write in flight stands: at the head of the event list, or in a slot's report list. -/
inductive ReportSource where
  | event
  | slot (slot : SlotId)
  deriving DecidableEq, Repr

/-- The Report Poster's record of its ring (R125). -/
structure Poster where
  state : ReportRingState := .closed
  base : Addr := 0
  size : Nat := 0
  tail : Nat := 0
  head : Nat := 0
  sequence : BitVec 16 := 0
  inFlight : Option ReportSource := none
  queue : List SlotId := []
  vector : Vec := 0
  coalescingCount : Nat := 1
  coalescingTime : Nat := 0
  unsignalled : Nat := 0
  timer : Option Stamp := none
  pendingMessage : Bool := false
  deriving DecidableEq, Repr

/-- An event report of the event list (R138, R169). -/
inductive EventReport where
  | fetchFault (ring : RingId) (index : Nat)
  | reportFault (ring : RingId) (place : Nat)
  /-- `isHead` tells a report ring head from a job ring tail. -/
  | indexError (isHead : Bool) (ring : RingId) (value : BitVec 32)
  deriving DecidableEq, Repr

/-- A write the Host Write Port has issued (R140): the address and the 32 bytes of a record or report, byte 0 in the
lowest eight bits, or the vector of an interrupt message. -/
inductive PortWrite where
  | record (lane : LaneId) (address : Addr) (data : BitVec 256)
  | report (ring : RingId) (address : Addr) (data : BitVec 256)
  | message (vector : Vec)
  deriving DecidableEq, Repr

/-- The Host Write Port (R140): the position of the requester granted last (0 to 15 the lanes, 16 to 23 the posters, 24
the message generator), and the granted write the link has not yet accepted; with none the port is free. -/
structure Port where
  position : Fin 25 := 24
  busy : Option PortWrite := none
  deriving DecidableEq, Repr

/-! ### The whole part -/

/-- The state of the part, and the queue of the commands that wait for it. `line` is the raw level of each lane at its
last sample (R1), `readData` the value the last read of TIME_LO returned to the host (log entry 3). -/
structure State where
  -- Controller and register window
  ctl : CtlState := .off
  interruptEnable : Bool := false
  configError : Bool := false
  fatalCause : FatalCause := .none
  cringJobBase : Addr := 0
  cringRptBase : Addr := 0
  cringJobSize : BitVec 13 := 0
  cringRptSize : BitVec 13 := 0
  accesses : List Access := []
  readData : BitVec 32 := 0
  -- Timebase
  timebase : Stamp := 0
  timeHi : BitVec 16 := 0
  -- Lanes
  line : BitVec 16 := Config.linesAtReset
  lanes : Vector Lane 16 := Vector.replicate 16 {}
  loanMsgs : List LoanMsg := []
  -- Job Table
  slots : Vector Slot 64 := Vector.replicate 64 {}
  tagMaps : Vector (List TagEntry) 8 := Vector.replicate 8 []
  -- Fetch Unit
  jobRings : Vector JobRing 8 := Vector.replicate 8 {}
  pointer : RingId := 7
  fetch : Option FetchRecord := none
  -- Report Posters
  posters : Vector Poster 8 := Vector.replicate 8 {}
  events : List EventReport := []
  eventsLost : Byte := 0
  messages : List Vec := []
  -- Host Write Port
  port : Port := {}
  -- The commands that wait, first in first out
  pending : List Instr := []
  deriving DecidableEq, Repr

/-- The part right after power-on, with no command waiting (R182). The lane pins are at `Config.linesAtReset`, which
the first sample takes as each lane's filtered level (R3). -/
def State.reset : State := {}

end Sys2Proof.Machine
end

