-- ==== Sys2Proof/Machine/Ops.lean ====
section
/-! DEFINITION. The named operations over the state: reading and updating one lane, slot, job ring, poster or tag map;
arithmetic on timestamps (R8, R19); saturating counters; the outstanding accesses (R180); loan messages (R54). Every
other file of the machine reads and writes the blocks through these. -/

namespace Sys2Proof.Machine

/-! ### Reading and updating one piece of a block -/

/-- The Lane Engine `l`. -/
def State.lane (s : State) (l : LaneId) : Lane := s.lanes[l]

def State.setLane (s : State) (l : LaneId) (x : Lane) : State := { s with lanes := s.lanes.set l x }

def State.modLane (s : State) (l : LaneId) (f : Lane → Lane) : State := s.setLane l (f (s.lane l))

/-- Slot `j` of the Job Table. -/
def State.slot (s : State) (j : SlotId) : Slot := s.slots[j]

def State.setSlot (s : State) (j : SlotId) (x : Slot) : State := { s with slots := s.slots.set j x }

def State.modSlot (s : State) (j : SlotId) (f : Slot → Slot) : State := s.setSlot j (f (s.slot j))

/-- The Fetch Unit's record of job ring `r`. -/
def State.jobRing (s : State) (r : RingId) : JobRing := s.jobRings[r]

def State.setJobRing (s : State) (r : RingId) (x : JobRing) : State :=
  { s with jobRings := s.jobRings.set r x }

def State.modJobRing (s : State) (r : RingId) (f : JobRing → JobRing) : State :=
  s.setJobRing r (f (s.jobRing r))

/-- The Report Poster of report ring `n`. -/
def State.poster (s : State) (n : RingId) : Poster := s.posters[n]

def State.setPoster (s : State) (n : RingId) (x : Poster) : State :=
  { s with posters := s.posters.set n x }

def State.modPoster (s : State) (n : RingId) (f : Poster → Poster) : State :=
  s.setPoster n (f (s.poster n))

/-- The tag map of job ring `r` (R48). -/
def State.tagMap (s : State) (r : RingId) : List TagEntry := s.tagMaps[r]

def State.setTagMap (s : State) (r : RingId) (m : List TagEntry) : State :=
  { s with tagMaps := s.tagMaps.set r m }

/-- Every lane, slot and ring, in the order of their numbers. -/
def allLanes : List LaneId := List.finRange 16

def allSlots : List SlotId := List.finRange 64

def allRings : List RingId := List.finRange 8

/-- Whether the controller is RUNNING, the one state in which the blocks act (R168, section 10). -/
def State.running (s : State) : Bool := s.ctl == .running

/-! ### Timestamps and durations -/

/-- The difference from `a` to `b`, modulo 2^48 (R8). -/
def elapsed (a b : Stamp) : Nat := (b - a).toNat

/-- Whether `a` is earlier than `b`: the difference from `a` to `b` is 1 to 2^47 (R8). -/
def earlier (a b : Stamp) : Bool := decide (1 ≤ elapsed a b) && decide (elapsed a b ≤ 2 ^ 47)

/-- Whether `a` is at or after `b` (R8). -/
def atOrAfter (a b : Stamp) : Bool := !earlier a b

/-- The instant `n` base ticks after `a`, modulo 2^48. -/
def later (a : Stamp) (n : Nat) : Stamp := a + BitVec.ofNat 48 n

/-- The duration from `a` to `b` in job ticks of `p` base ticks, rounded down (R19). -/
def duration (a b : Stamp) (p : Nat) : BitVec 32 := BitVec.ofNat 32 (elapsed a b / p)

/-! ### Saturating counters (00_scope.md, Saturation) -/

/-- Add `n`, staying at the maximum value. -/
def satAdd {w : Nat} (x : BitVec w) (n : Nat) : BitVec w :=
  if x.toNat + n < 2 ^ w then x + BitVec.ofNat w n else BitVec.allOnes w

/-- Increase by one, staying at the maximum value. -/
def satInc {w : Nat} (x : BitVec w) : BitVec w := satAdd x 1

/-! ### Outstanding accesses and loan messages -/

/-- The outstanding-access count of R180. -/
def State.outstandingCount (s : State) : Nat := s.accesses.length

/-- An access is issued: the count rises by one (R180). -/
def issueAccess (a : Access) (s : State) : State := { s with accesses := s.accesses ++ [a] }

/-- An access is finished: the count falls by one (R180). -/
def finishAccess (a : Access) (s : State) : State := { s with accesses := s.accesses.erase a }

/-- Whether two loans are named alike: the same primary lane, slot and loan number (R54, R60, R61). -/
def Loan.names (a b : Loan) : Bool := a.primary == b.primary && a.slot == b.slot && a.number == b.number

/-- A loan message is sent; messages of one lane to another are taken in the order they were sent (R54). -/
def sendLoan (m : LoanMsg) (s : State) : State := { s with loanMsgs := s.loanMsgs ++ [m] }

/-- The oldest message in flight from `src` to `dst`. -/
def oldestLoan (src dst : LaneId) (s : State) : Option LoanMsg :=
  s.loanMsgs.find? fun m => m.src == src && m.dst == dst

/-- The loan a message of kind `k` carries when it is the oldest in flight from `src` to `dst`, with the state in which
the message has been taken. -/
def takeLoan (k : LoanMsgKind) (src dst : LaneId) (s : State) : Option (Loan × State) :=
  match oldestLoan src dst s with
  | none => none
  | some m => if m.kind = k then some (m.loan, { s with loanMsgs := s.loanMsgs.erase m }) else none

end Sys2Proof.Machine
end

