-- ==== Sys2Proof/Machine/Operands.lean ====
section
/-! DEFINITION. How the fields of an entry are read: lane and ring numbers, edge specifications (R5), prescale codes
(R19), the job's partner lane, and the first bytes of the register window's words. -/

namespace Sys2Proof.Machine

/-- The lane a lane field names, when it is 0 to 15 (R184). -/
def laneOf (b : Byte) : Option LaneId :=
  if h : b.toNat < 16 then some ⟨b.toNat, h⟩ else none

/-- The ring a ring field names, when it is 0 to 7 (R184). -/
def ringOf (b : Byte) : Option RingId :=
  if h : b.toNat < 8 then some ⟨b.toNat, h⟩ else none

/-- The ring an id field names, when it is 1 to 7 (R149, R152, R154). -/
def ioRingOf (b : Byte) : Option RingId :=
  match ringOf b with
  | some r => if r = 0 then none else some r
  | none => none

/-- Whether an arrival of this polarity matches the edge specification of this code: 1 RISE, 2 FALL, 3 EITHER; NONE and
every other code match nothing (R5, section 11.5). -/
def matchesSpec (spec : Byte) (p : Polarity) : Bool :=
  match p with
  | .rise => spec == 1 || spec == 3
  | .fall => spec == 2 || spec == 3

/-- Whether a start specification is NONE (section 11.5). -/
def specIsNone (spec : Byte) : Bool := spec == 0

/-- The code of a polarity, as `aux` carries it (section 11.5). -/
def polarityCode : Polarity → BitVec 32
  | .rise => 1
  | .fall => 2

/-- The base ticks of a job tick for a prescale code (R19). -/
def prescaleTicks (code : Byte) : Nat :=
  if code = 0 then 1 else if code = 1 then 8 else if code = 2 then 64 else 512

/-- The base ticks of a job's window of W job ticks (R19). -/
def windowTicks (e : MeasEntry) : Nat := e.window.toNat * prescaleTicks e.prescale

/-- The base ticks from a start to its overflow bound (R19). -/
def overflowTicks (e : MeasEntry) : Nat := 2 ^ 32 * prescaleTicks e.prescale

/-- The partner lane of an accepted SPAN; the checks of R18 have passed, so the field is 0 to 15. -/
def partnerOf (e : MeasEntry) : LaneId := Fin.ofNat 16 e.partner.toNat

/-- Whether a job's first window opens at its activation: TALLY or QUIET with start spec NONE (R25, R38, R41). -/
def startsAtActivation (job : Job) : Bool :=
  match job.kind with
  | .tally => specIsNone job.fields.startSpec
  | .quiet => specIsNone job.fields.startSpec
  | _ => false

/-- Whether a job is a SPAN. -/
def isSpan (job : Job) : Bool := job.kind == .span

/-- Whether an address is a multiple of 32 or of 64 (R79, R121, R149, R152). -/
def aligned32 (a : Addr) : Bool := a.toNat % 32 == 0

def aligned64 (a : Addr) : Bool := a.toNat % 64 == 0

/-- Whether a ring size is 2 to 4096 (R149, R152, R177). -/
def sizeValid (n : Nat) : Bool := decide (Config.ringSizeMin ≤ n) && decide (n ≤ Config.ringSizeMax)

/-- The index field of a JOB_TAIL or RPT_HEAD word: bits 11 to 0 (R186). -/
def indexField (v : BitVec 32) : Nat := (v.extractLsb' 0 12).toNat

end Sys2Proof.Machine
end

