-- ==== Sys2Proof/Machine/Flags.lean ====
section
/-! DEFINITION. The flags of measurements, records and reports (R21, R23, R24, R71), and the numeric codes of section
11.5 that the reports carry. -/

namespace Sys2Proof.Machine

/-- The flags of two measurements together (R21: flags seen accumulate). -/
def MeasFlags.union (a b : MeasFlags) : MeasFlags :=
  { overflow := a.overflow || b.overflow
    bandLow := a.bandLow || b.bandLow
    bandHigh := a.bandHigh || b.bandHigh
    edgeSeen := a.edgeSeen || b.edgeSeen }

/-- Whether the band is checked: band enable is on, and the kind is not QUIET (R18, R23). -/
def bandChecked (job : Job) : Bool := job.fields.bandEnable && job.kind != .quiet

/-- The band flags of a measurement, the first row of R23's table that applies: an overflow is BAND_HIGH whatever the
limits are. -/
def bandFlags (job : Job) (value : BitVec 32) (overflow : Bool) : MeasFlags :=
  if !bandChecked job then {}
  else if overflow then { bandHigh := true }
  else if value < job.fields.bandLow then { bandLow := true }
  else if job.fields.bandHigh < value then { bandHigh := true }
  else {}

/-- The flags of a produced measurement (R21, R23). -/
def measurementFlags (job : Job) (value : BitVec 32) (overflow edgeSeen : Bool) : MeasFlags :=
  { bandFlags job value overflow with overflow := overflow, edgeSeen := edgeSeen }

/-- Whether a measurement triggers stop-on-band (R24). -/
def bandTrigger (job : Job) (f : MeasFlags) : Bool :=
  match job.kind with
  | .quiet => f.edgeSeen
  | _ => f.bandLow || f.bandHigh

/-- The bits of `flags` and `flags_seen`: bit 0 OVERFLOW, 1 BAND_LOW, 2 BAND_HIGH, 3 EDGE_SEEN, 4 AFTER_LOSS
(section 11.2). -/
def flagBits (f : MeasFlags) (afterLoss : Bool) : Byte :=
  (if f.overflow then 1 else 0) ||| (if f.bandLow then 2 else 0) ||| (if f.bandHigh then 4 else 0)
    ||| (if f.edgeSeen then 8 else 0) ||| (if afterLoss then 16 else 0)

/-- The status codes (section 11.5). -/
def statusCode : Status → Byte
  | .ok => 0x00
  | .bandStop => 0x01
  | .startTimeout => 0x02
  | .cancelled => 0x03
  | .ringClosed => 0x04
  | .writeFault => 0x05
  | .badKind => 0x10
  | .badField => 0x11
  | .badLane => 0x12
  | .badBuffer => 0x13
  | .dupTag => 0x14
  | .notOwner => 0x15
  | .queueFull => 0x16
  | .notFound => 0x17
  | .tooLate => 0x18
  | .listFull => 0x19
  | .ringExists => 0x1A
  | .noRing => 0x1B
  | .inUse => 0x1C
  | .laneBusy => 0x1D
  | .alreadyHeld => 0x1E
  | .notHeld => 0x1F

/-- The slot state codes of PEEK_JOB and `found`; a report never carries FREE (section 11.5). -/
def slotStateCode : SlotState → Byte
  | .free => 0
  | .fetching => 1
  | .pending => 2
  | .active => 3
  | .draining => 4
  | .waiting => 5
  | .posting => 6

/-- The controller state codes of STAT (section 11.5). -/
def ctlCode : CtlState → BitVec 32
  | .off => 0
  | .running => 1
  | .stopping => 2
  | .fatal => 3

/-- The fatal cause codes of STAT (section 11.5). -/
def fatalCode : FatalCause → BitVec 32
  | .none => 0
  | .finalWrite => 1
  | .eventWrite => 2

/-- The number of the job ring that owns a lane, 0 for none (section 11.3). -/
def ownerCode : Option RingId → Byte
  | none => 0
  | some r => BitVec.ofNat 8 r.val

end Sys2Proof.Machine
end

