-- ==== Sys2Proof/Machine/Formats.lean ====
section
/-! DEFINITION. The 32 bytes of result records, reports and event reports in host memory (sections 11.2, 11.3, R185).
A structure of n bytes is a bit vector with byte 0 in its lowest eight bits, so that a little-endian field of several
bytes is a run of bits; fields are joined from the last byte down to byte 0. -/

namespace Sys2Proof.Machine

/-- A result record (section 11.2). -/
def recordBytes (r : ResultRecord) : BitVec 256 :=
  0#8 ++ flagBits r.flags r.afterLoss ++ r.endTs ++ r.lostBefore ++ r.startTs ++ r.aux ++ r.value ++ r.index

/-- Bytes 10 to 31 of a FINAL (section 11.3). -/
def finalBodyBytes : FinalBody → BitVec 176
  | .empty => 0#176
  | .measurement flagsSeen writeFaulted partialRecords unusedBuffers lost written buffersRetired =>
    buffersRetired ++ written ++ lost ++ 0#8 ++ unusedBuffers ++ partialRecords
      ++ (if writeFaulted then 1#8 else 0#8) ++ flagBits flagsSeen false
  | .addBuffer target position => 0#152 ++ position ++ target
  | .openReportRing id size => 0#144 ++ size ++ 0#8 ++ id
  | .openJobRing id bound size => 0#144 ++ size ++ bound ++ id
  | .closeReportRing id head tail => 0#128 ++ tail ++ head ++ 0#8 ++ id
  | .closeJobRing ring ended waited stoppedHead => 0#128 ++ stoppedHead ++ waited ++ ended ++ ring
  | .setLane lane filter invert => 0#152 ++ invert ++ filter ++ lane
  | .claimLane lane before after => 0#152 ++ after ++ before ++ lane
  | .holdLane lane ring tag abandoned =>
    0#136 ++ (if abandoned then 1#8 else 0#8) ++ tag ++ ring ++ lane
  | .releaseLane lane ring tag => 0#144 ++ tag ++ ring ++ lane
  | .cancelJob ring found tag => 0#144 ++ tag ++ found ++ ring
  | .peekJob ring state tag queued produced written lost =>
    lost ++ written.setWidth 48 ++ produced.setWidth 48 ++ 0#8 ++ queued ++ tag ++ state ++ ring

/-- Bytes 10 to 31 of a PROGRESS or of a FINAL (section 11.3). -/
def reportBodyBytes : ReportBody → BitVec 176
  | .progress address records buffersRetired => address ++ 0#32 ++ records ++ buffersRetired ++ 0#16
  | .final _ body => finalBodyBytes body

/-- The report type byte: 1 PROGRESS, 2 FINAL (section 11.3). -/
def reportType : ReportBody → Byte
  | .progress _ _ _ => 1
  | .final _ _ => 2

/-- The status byte: 0 in a PROGRESS (R185). -/
def reportStatus : ReportBody → Byte
  | .progress _ _ _ => 0
  | .final st _ => statusCode st

/-- A PROGRESS or FINAL report (section 11.3). -/
def reportBytes (r : Report) : BitVec 256 :=
  reportBodyBytes r.body ++ r.ringHead ++ reportStatus r.body ++ BitVec.ofNat 8 r.ring.val ++ r.tag ++ r.sequence
    ++ r.kindCode ++ reportType r.body

/-- The event codes (section 11.5). -/
def eventCode : EventReport → Byte
  | .fetchFault _ _ => 1
  | .reportFault _ _ => 2
  | .indexError _ _ _ => 3

/-- Bytes 11 to 31 of an event report: ring, register, and the index, place or value (section 11.3, R169). -/
def eventFieldBytes : EventReport → BitVec 168
  | .fetchFault ring index => 0#96 ++ BitVec.ofNat 32 index ++ 0#24 ++ 0#8 ++ BitVec.ofNat 8 ring.val
  | .reportFault ring place => 0#96 ++ BitVec.ofNat 32 place ++ 0#24 ++ 0#8 ++ BitVec.ofNat 8 ring.val
  | .indexError isHead ring value =>
    0#96 ++ value ++ 0#24 ++ (if isHead then 1#8 else 0#8) ++ BitVec.ofNat 8 ring.val

/-- An event report with the sequence number and `events_lost` filled at its issue (R130, R139); bytes 4 to 9 are 0
(R185). -/
def eventBytes (e : EventReport) (sequence : BitVec 16) (eventsLost : Byte) : BitVec 256 :=
  eventFieldBytes e ++ eventsLost ++ 0#48 ++ sequence ++ eventCode e ++ 3#8

end Sys2Proof.Machine
end

