-- ==== Sys2Proof/Machine/Reports.lean ====
section
/-! DEFINITION. Reports: their creation into report list and posting queue (R131, R132), merging (R133), discards on a
FAULTED ring (R146), the freeing of slots (R67) with the completion of a waiting CLOSE_JOB_RING (R156), refusals and
completions of entries (R123, R147), the event list (R138), and coalescing and interrupt messages (R142 to R145). -/

namespace Sys2Proof.Machine

/-! ### Reports -/

/-- The report ring that carries the reports of job ring `r`: ring 0 for ring 0, else the ring bound to it (R131). -/
def reportRing (s : State) (r : RingId) : RingId := if r = 0 then 0 else (s.jobRing r).bound

/-- Whether a report is a FINAL. -/
def Report.isFinal (r : Report) : Bool :=
  match r.body with
  | .final _ _ => true
  | .progress _ _ _ => false

/-- Whether a report is a PROGRESS that waits, so not one in flight (R131). -/
def Report.isWaitingProgress (r : Report) : Bool := !r.isFinal && !r.inFlight

/-- A report of slot `j` is appended to the slot's report list and to the posting queue of its ring (R131, R132). -/
def pushReport (j : SlotId) (body : ReportBody) (s : State) : State :=
  let x := s.slot j
  let report : Report := { kindCode := x.kindCode, tag := x.tag, ring := x.ring, body := body }
  (s.modSlot j fun x => { x with reports := x.reports ++ [report] }).modPoster (reportRing s x.ring)
    fun p => { p with queue := p.queue ++ [j] }

/-- The head of job ring `r` as 16 bits of a FINAL's contents. -/
def headField (s : State) (r : RingId) : BitVec 16 := BitVec.ofNat 16 (s.jobRing r).head

/-- The close that waits for ring `r` completes: the ring becomes CLOSED, and the close's slot passes to POSTING with
status OK and its FINAL on report ring 0 (R156). -/
def completeClose (r : RingId) (c : SlotId) (ended waited : Nat) (s : State) : State :=
  let s1 := s.modJobRing r fun q => { q with state := .closed, closer := none }
  let s2 := s1.modSlot c fun x => { x with state := .posting, endStatus := some .ok, wait := .none }
  pushReport c (.final .ok (.closeJobRing (BitVec.ofNat 8 r.val) (BitVec.ofNat 8 ended) (BitVec.ofNat 16 waited)
    (headField s r))) s2

/-- A slot of ring `r` has become FREE: the remaining count of a close that waits for the ring falls by one, and at 0
the close completes (R156). -/
def countFreed (r : RingId) (s : State) : State :=
  match (s.jobRing r).closer with
  | none => s
  | some c =>
    match (s.slot c).wait with
    | .close q remaining ended waited =>
      if remaining ≤ 1 then completeClose r c ended waited s
      else s.modSlot c fun x => { x with wait := .close q (remaining - 1) ended waited }
    | _ => s

/-- The FINAL of slot `j` has been written or discarded: the slot becomes FREE (R67). -/
def freeSlot (j : SlotId) (s : State) : State :=
  let r := (s.slot j).ring
  countFreed r (s.modSlot j fun x => { x with state := .free, reports := [] })

/-- The report at the head of the posting queue of ring `n` leaves the queue and its slot's report list; a FINAL frees
its slot (R136, R146). -/
def dropHead (n : RingId) (s : State) : State :=
  match (s.poster n).queue with
  | [] => s
  | j :: rest =>
    let s1 := s.modPoster n fun p => { p with queue := rest }
    match (s.slot j).reports with
    | [] => s1
    | report :: others =>
      let s2 := s1.modSlot j fun x => { x with reports := others }
      if report.isFinal then freeSlot j s2 else s2

/-- `k` reports reach the head of the posting queue of ring `n` one after the other and leave it (R146, R165). -/
def dropHeads : Nat → RingId → State → State
  | 0, _, s => s
  | k + 1, n, s => dropHeads k n (dropHead n s)

/-- A report of slot `j` is created (R131, R132). On a FAULTED ring it reaches the head of the queue and is discarded in
the same event (R146, R166). -/
def createReport (j : SlotId) (body : ReportBody) (s : State) : State :=
  let n := reportRing s (s.slot j).ring
  let s1 := pushReport j body s
  if (s1.poster n).state = .faulted then dropHeads (s1.poster n).queue.length n s1 else s1

/-- The retirement of a buffer of `records` places at `address` is merged into the newest waiting PROGRESS (R133). -/
def mergeNewest (address : Addr) (records : BitVec 16) : List Report → List Report
  | [] => []
  | r :: rs =>
    if rs.any Report.isWaitingProgress then r :: mergeNewest address records rs
    else
      match r.body with
      | .progress _ n k =>
        if r.inFlight then r :: rs
        else { r with body := .progress address (satAdd n records.toNat) (satInc k) } :: rs
      | .final _ _ => r :: rs

/-- A retirement is reported: by a new PROGRESS, or merged when 3 of the job's PROGRESS reports wait (R78, R133). -/
def reportRetirement (j : SlotId) (b : Buffer) (s : State) : State :=
  if Config.progressDepth ≤ (s.slot j).reports.countP Report.isWaitingProgress then
    s.modSlot j fun x => { x with reports := mergeNewest b.base b.capacity x.reports }
  else createReport j (.progress b.base (b.capacity.setWidth 32) 1) s

/-! ### The answers of entries -/

/-- The end status of a slot is set once, by the first end taken (R47). -/
def Slot.endWith (x : Slot) (st : Status) : Slot :=
  match x.endStatus with
  | none => { x with endStatus := some st }
  | some _ => x

/-- An entry that is not a live measurement job passes to POSTING with this status, and its FINAL is created (R68, R123,
R147). -/
def answer (j : SlotId) (st : Status) (body : FinalBody) (s : State) : State :=
  createReport j (.final st body)
    (s.modSlot j fun x => { x with state := .posting, endStatus := some st, wait := .none })

/-! ### The event list -/

/-- An event report is raised at the poster of report ring 0 (R138). -/
def raiseEvent (e : EventReport) (s : State) : State :=
  if s.events.length < Config.eventListDepth then { s with events := s.events ++ [e] }
  else { s with eventsLost := satInc s.eventsLost }

/-! ### Coalescing and interrupt messages -/

/-- A vector is passed to the interrupt message generator: appended unless it is already in the list (R145). -/
def passVector (v : Vec) (s : State) : State :=
  if v ∈ s.messages then s else { s with messages := s.messages ++ [v] }

/-- A message of ring `n` is requested (R144). -/
def requestMessage (n : RingId) (s : State) : State :=
  if s.interruptEnable then passVector (s.poster n).vector s
  else s.modPoster n fun p => { p with pendingMessage := true }

/-- A posted report is counted, and the poster acts on the new count (R142). -/
def countPosted (n : RingId) (s : State) : State :=
  let p := s.poster n
  if p.unsignalled + 1 = p.coalescingCount then
    requestMessage n (s.setPoster n { p with unsignalled := 0, timer := none })
  else if p.unsignalled + 1 = 1 ∧ p.coalescingTime ≠ 0 then
    s.setPoster n
      { p with
        unsignalled := p.unsignalled + 1
        timer := some (later s.timebase (p.coalescingTime * Config.ticksPerCoalescingUnit)) }
  else s.setPoster n { p with unsignalled := p.unsignalled + 1 }

/-- Every poster whose pending-message flag is set passes its vector and clears the flag, in ring order (R144). -/
def sendPendingMessages (s : State) : State :=
  allRings.foldl
    (fun s n =>
      if (s.poster n).pendingMessage then
        passVector (s.poster n).vector (s.modPoster n fun p => { p with pendingMessage := false })
      else s) s

/-! ### The unconsumed reports of a ring -/

/-- Whether the head has been moved one past the tail, onto the place of the write in flight (R127, R128). -/
def Poster.overtaken (p : Poster) : Bool := p.inFlight.isSome && decide (p.head = (p.tail + 1) % p.size)

/-- The number of reports the host has not released (R127). -/
def Poster.unconsumed (p : Poster) : Nat :=
  if p.overtaken then 0 else (p.tail + p.size - p.head) % p.size

/-- Whether the ring is full (R127). -/
def Poster.full (p : Poster) : Bool := !p.overtaken && decide ((p.tail + 1) % p.size = p.head)

/-- Whether RPT_HEAD value `h` lies in the span of values taken (R128): from the present head to the tail, and one place
further while a write is in flight; while the head already stands on that place, only the head itself. -/
def Poster.headAccepted (p : Poster) (h : Nat) : Bool :=
  decide (h < p.size) &&
    (if p.overtaken then decide (h = p.head)
     else decide ((h + p.size - p.head) % p.size ≤ p.unconsumed + (if p.inFlight.isSome then 1 else 0)))

end Sys2Proof.Machine
end

