-- ==== Sys2Proof/Machine/Port.lean ====
section
/-! DEFINITION. The Host Write Port: the requests that stand (R76, R134, R145), the rotation (R140), and what each
requester issues at its grant (R76, R135, R139, R145). A request stands exactly while its rule's conditions hold, so it
is computed from the state and not stored (log entry 5). -/

namespace Sys2Proof.Machine

/-- The position of lane `l` in the rotation (R140). -/
def lanePosition (l : LaneId) : Fin 25 := ⟨l.val, by omega⟩

/-- The position of the poster of ring `n` in the rotation (R140). -/
def posterPosition (n : RingId) : Fin 25 := ⟨16 + n.val, by omega⟩

/-- The position of the interrupt message generator (R140). -/
def generatorPosition : Fin 25 := 24

/-- Lane `l` requests: its staging FIFO is not empty and its write slot is (R76). -/
def laneRequests (s : State) (l : LaneId) : Bool :=
  !(s.lane l).fifo.isEmpty && (s.lane l).writeSlot.isNone

/-- The poster of ring `n` requests (R134). -/
def posterRequests (s : State) (n : RingId) : Bool :=
  let p := s.poster n
  p.state == .open && !p.full && p.inFlight.isNone && (!p.queue.isEmpty || (n == 0 && !s.events.isEmpty))

/-- The generator requests: its message list is not empty (R145). -/
def generatorRequests (s : State) : Bool := !s.messages.isEmpty

/-- Whether the request of the requester at position `k` stands. -/
def requestStands (s : State) (k : Fin 25) : Bool :=
  if h : k.val < 16 then laneRequests s ⟨k.val, h⟩
  else if h : k.val - 16 < 8 then posterRequests s ⟨k.val - 16, h⟩
  else generatorRequests s

/-- The positions in the order a search takes them: from the one after the position granted last, wrapping, to that
position itself (R140). -/
def rotationFrom (position : Fin 25) : List (Fin 25) :=
  (List.range 25).map fun k => Fin.ofNat 25 (position.val + 1 + k)

/-- The requester a grant decision chooses (R140). -/
def nextGrant (s : State) : Option (Fin 25) := (rotationFrom s.port.position).find? (requestStands s)

/-- Lane `l` is granted: the head record enters the write slot and its 32 bytes are issued to its place (R76). -/
def grantLane (l : LaneId) (s : State) : State :=
  match (s.lane l).fifo with
  | [] => s
  | r :: rest =>
    let s1 := s.modLane l fun x => { x with fifo := rest, writeSlot := some r }
    issueAccess (.record l) { s1 with port := { s1.port with busy := some (.record l r.place (recordBytes r)) } }

/-- The host address of the place a ring's tail names (R135). DESIGN CHOICE (log entry 20; unsafe): it wraps modulo
2^64. -/
def tailAddress (p : Poster) : Addr := p.base + BitVec.ofNat 64 (32 * p.tail)

/-- The oldest event report is issued; its `events_lost` takes the count, which becomes 0 (R135, R139). -/
def issueEvent (e : EventReport) (s : State) : State :=
  let p := s.poster 0
  let s1 := s.setPoster 0 { p with inFlight := some .event }
  issueAccess (.report 0)
    { s1 with
      eventsLost := 0
      port := { s1.port with
        busy := some (.report 0 (tailAddress p) (eventBytes e (p.sequence + 1) s.eventsLost)) } }

/-- The report at the head of ring `n`'s posting queue is issued, with its sequence number and ring head filled (R124,
R130, R135). -/
def issueReport (n : RingId) (j : SlotId) (r : Report) (others : List Report) (s : State) : State :=
  let p := s.poster n
  let filled := { r with inFlight := true, sequence := p.sequence + 1, ringHead := headField s r.ring }
  let s1 := (s.modSlot j fun x => { x with reports := filled :: others }).setPoster n
    { p with inFlight := some (.slot j) }
  issueAccess (.report n)
    { s1 with port := { s1.port with busy := some (.report n (tailAddress p) (reportBytes filled)) } }

/-- The poster of ring `n` is granted and chooses its report: on ring 0 the oldest event report when there is one, else
the head of the posting queue (R135). -/
def grantPoster (n : RingId) (s : State) : State :=
  match (if n = 0 then s.events else []) with
  | e :: _ => issueEvent e s
  | [] =>
    match (s.poster n).queue with
    | [] => s
    | j :: _ =>
      match (s.slot j).reports with
      | [] => s
      | r :: others => issueReport n j r others s

/-- The generator is granted: the oldest vector leaves the list and one message is issued, which is outstanding until
the link accepts it (R145, R180). -/
def grantGenerator (s : State) : State :=
  match s.messages with
  | [] => s
  | v :: rest =>
    issueAccess .message { s with messages := rest, port := { s.port with busy := some (.message v) } }

/-- The requester at position `k` is granted: the port's position becomes `k`, and the requester issues its write
(R140). -/
def grantAt (k : Fin 25) (s : State) : State :=
  let s1 := { s with port := { s.port with position := k } }
  if h : k.val < 16 then grantLane ⟨k.val, h⟩ s1
  else if h : k.val - 16 < 8 then grantPoster ⟨k.val - 16, h⟩ s1
  else grantGenerator s1

/-- The grant decision, taken in every event that leaves the port free with a request standing, while the controller is
RUNNING (R140, R141). -/
def portDecision (s : State) : State :=
  if s.running && s.port.busy.isNone then
    match nextGrant s with
    | none => s
    | some k => grantAt k s
  else s

end Sys2Proof.Machine
end

