-- ==== Sys2Proof/Machine/Fetch.lean ====
section
/-! DEFINITION. The Fetch Unit: which ring is eligible (R110), the choice among them (R112, R113), the issue of the read
(R114), and `settle`, the fetch decision and the grant decision that close an event (R111, R140). -/

namespace Sys2Proof.Machine

/-- The number of FREE slots (R110). -/
def freeSlots (s : State) : Nat := allSlots.countP fun j => (s.slot j).state == .free

/-- The lowest-numbered FREE slot (R114). -/
def lowestFree (s : State) : Option SlotId := allSlots.find? fun j => (s.slot j).state == .free

/-- Whether a ring has work (R109). -/
def JobRing.hasWork (q : JobRing) : Bool := q.head != q.tail

/-- Whether ring `r` is eligible for a fetch (R110). -/
def ringEligible (s : State) (r : RingId) : Bool :=
  let q := s.jobRing r
  q.state == .open && q.hasWork &&
    (if r = 0 then decide (1 ≤ freeSlots s)
     else (s.poster q.bound).state == .open && decide (Config.ioFetchFreeSlots ≤ freeSlots s))

/-- Rings 1 to 7 from the one after `p`, wrapping from 7 to 1 and ending with `p` (R113). -/
def ringsAfter (p : RingId) : List RingId :=
  (List.range 7).map fun k => Fin.ofNat 8 ((p.val + k) % 7 + 1)

/-- The ring a fetch decision chooses: ring 0 when it is eligible; else the ring under the pointer while it has credit;
else the first eligible ring of the search (R112, R113). -/
def chooseRing (s : State) : Option RingId :=
  if ringEligible s 0 then some 0
  else if ringEligible s s.pointer && decide (0 < (s.jobRing s.pointer).credit) then some s.pointer
  else (ringsAfter s.pointer).find? (ringEligible s)

/-- The rotation's state after ring `r` is chosen, before its read is issued (R112, R113): a fetch from ring 0, or from
the ring under the pointer while it has credit, moves nothing; otherwise the ring left loses its credit and the chosen
ring takes its weight as credit. -/
def movePointer (r : RingId) (s : State) : State :=
  if r = 0 then s
  else if r = s.pointer ∧ 0 < (s.jobRing r).credit then s
  else
    let s1 := s.modJobRing s.pointer fun q => { q with credit := 0 }
    { s1.modJobRing r fun q => { q with credit := q.weight } with pointer := r }

/-- The read of ring `r`'s head entry is issued into slot `j` (R114). -/
def issueFetch (r : RingId) (j : SlotId) (s : State) : State :=
  let s1 := s.setSlot j { state := .fetching, ring := r }
  let s2 := if r = 0 then s1 else s1.modJobRing r fun q => { q with credit := q.credit - 1 }
  issueAccess .fetch { s2 with fetch := some { ring := r, index := (s.jobRing r).head, slot := j } }

/-- The host address of the entry a fetch read names (R114). DESIGN CHOICE (log entry 20; unsafe): it wraps modulo
2^64. -/
def fetchAddress (s : State) (f : FetchRecord) : Addr :=
  (s.jobRing f.ring).base + BitVec.ofNat 64 (64 * f.index)

/-- The fetch decision, taken in every event that leaves the controller RUNNING, no read in flight and a ring eligible
(R111). -/
def fetchDecision (s : State) : State :=
  if s.running && s.fetch.isNone then
    match chooseRing s, lowestFree s with
    | some r, some j => issueFetch r j (movePointer r s)
    | _, _ => s
  else s

/-- What closes an event: the fetch decision and the grant decision it makes possible (R111, R140). The two touch
different state, so their order does not matter. -/
def settle (s : State) : State := portDecision (fetchDecision s)

end Sys2Proof.Machine
end

