-- ==== Sys2Proof/Machine/Contexts.lean ====
section
/-! DEFINITION. The measurement context (R20): its creation at activation (R20, R34, R38, R41, R62), the start of a
measurement and the opening of a window with their expiries (R9, R19, R28, R38), holding and resuming (R43, R96). -/

namespace Sys2Proof.Machine

/-- The settle interval of a job on lane `l`: the lane's filter width, and for a SPAN the larger of the widths of its
two lanes (R9, R34). -/
def settleInterval (s : State) (l : LaneId) (job : Job) : Nat :=
  let own := (s.lane l).filterWidth.toNat
  if isSpan job then max own (s.lane (partnerOf job.fields)).filterWidth.toNat else own

/-- The window that starts at `start` opens, with its expiry scheduled (R9, R38, R41). -/
def openWindow (e : MeasEntry) (settleTicks : Nat) (start : Stamp) (c : Context) : Context :=
  let nominal := later start (windowTicks e)
  { c with
    phase := .window
    startTs := start
    windowEnd := nominal
    edgeCounter := 0
    saturated := false
    firstEdge := none
    pending := some { kind := .windowEnd, nominal := nominal, due := later nominal settleTicks } }

/-- A measurement starts at `start`, with its overflow bound scheduled (R9, R28, R31, R36). -/
def startMeasuring (e : MeasEntry) (settleTicks : Nat) (start : Stamp) (c : Context) : Context :=
  let nominal := later start (overflowTicks e)
  { c with
    phase := .measuring
    startTs := start
    edgeCounter := 0
    pending := some { kind := .overflow, nominal := nominal, due := later nominal settleTicks } }

/-- The context waits for a start edge, with nothing pending (R28, R30, R31). -/
def rearm (c : Context) : Context := { c with phase := .armed, edgeCounter := 0, pending := none }

/-- The first phase of a context whose accept-from is set: a window at once for TALLY and QUIET with start spec NONE,
else ARMED (R20, R38, R41, R43). -/
def beginContext (job : Job) (settleTicks : Nat) (c : Context) : Context :=
  if startsAtActivation job then openWindow job.fields settleTicks c.acceptFrom c
  else
    { c with
      phase := .armed, edgeCounter := 0, saturated := false, firstEdge := none, pending := none, alignment := [] }

/-- The context enters HELD: what it measures is abandoned, its expiry withdrawn and its alignment list emptied; a
context already HELD stays as it is (R43, R90). -/
def holdContext (c : Context) : Context := { c with phase := .held, pending := none, alignment := [] }

/-- Whether a hold abandons a measurement or a window of this context (R43, R93). -/
def holdAbandons (c : Context) : Bool := c.phase == .measuring || c.phase == .window

/-- The context a job takes at its activation at `now`; a SPAN activated with the partner-held mark set starts HELD
(R20, R34, R62). -/
def activationContext (job : Job) (settleTicks : Nat) (now : Stamp) (partnerHeld : Bool) : Context :=
  let c := beginContext job settleTicks { acceptFrom := now, partnerHeld := partnerHeld }
  if partnerHeld then holdContext c else c

/-- The context resumes at `now` (R43, R96). -/
def resumeContext (job : Job) (settleTicks : Nat) (now : Stamp) (c : Context) : Context :=
  beginContext job settleTicks { c with acceptFrom := now, alignment := [] }

/-- The job of a slot that holds a measurement job. A slot of no job reads as a default job; no rule reads one. -/
def jobOf (s : State) (j : SlotId) : Job := ((s.slot j).job).getD { kind := .width, fields := {} }

/-- Whether the active job of lane `l` is a SPAN whose partner is lane `p` (R6, R91). -/
def activeSpanOn (s : State) (l p : LaneId) : Bool :=
  match (s.lane l).active with
  | none => false
  | some j => isSpan (jobOf s j) && partnerOf (jobOf s j).fields == p

end Sys2Proof.Machine
end

