-- ==== Sys2Proof/Machine/Loans.lean ====
section
/-! DEFINITION. Lane queues, activation and partner loans (sections 3.3 and 3.4): what a lane does when an event changes
its state (R52, R57), and the six loan messages (R55 to R61), each with the command that takes it. -/

namespace Sys2Proof.Machine

/-! ### Acting on a new state -/

/-- Whether lane `l` is free for activation (R52). -/
def freeForActivation (s : State) (l : LaneId) : Bool :=
  let x := s.lane l
  s.running && x.active.isNone && x.lentTo.isNone && !x.hold && !x.queue.isEmpty

/-- Whether the grant conditions of lane `l` hold, those on its place apart (R56, R57). -/
def grantConditions (s : State) (l : LaneId) : Bool :=
  let x := s.lane l
  s.running && x.active.isNone && x.lentTo.isNone && !x.hold && x.queue.isEmpty

/-- The head of lane `l`'s queue becomes its active job (R20, R25, R52, R58). -/
def activateHead (l : LaneId) (s : State) : State :=
  match (s.lane l).queue with
  | [] => s
  | h :: rest =>
    let job := jobOf s h
    let c := activationContext job (settleInterval s l job) s.timebase ((s.lane l).partnerMark && isSpan job)
    let s1 := s.modLane l fun x =>
      { x with queue := rest, active := some h, ctx := some c, loanPhase := .idle, partnerMark := false }
    s1.modSlot h fun x =>
      { x with state := .active, startTimer := if startsAtActivation job then none else x.startTimer }

/-- The loan of this number for the SPAN in slot `h`, the head of lane `l` (R54). -/
def loanFor (s : State) (l : LaneId) (h : SlotId) (number : BitVec 8) : Loan :=
  { primary := l, slot := h, number := number, ring := (s.slot h).ring, tag := (s.slot h).tag }

/-- The SPAN at the head of lane `l` asks for its partner (R55). -/
def sendLoanRequest (l : LaneId) (h : SlotId) (s : State) : State :=
  let number := (s.lane l).loanNumber + 1
  sendLoan
    { src := l, dst := partnerOf (jobOf s h).fields, kind := .request, loan := loanFor s l h number }
    (s.modLane l fun x => { x with loanPhase := .asked, loanNumber := number })

/-- A place-open notice goes to every lane but `l` itself (R54, R57, R60). -/
def sendPlaceOpen (l : LaneId) (loan : Loan) (s : State) : State :=
  allLanes.foldl
    (fun s m => if m = l then s else sendLoan { src := l, dst := m, kind := .placeOpen, loan := loan } s) s

/-- Lane `l` is lent to the SPAN of this request, and sends the grant (R56, R57). -/
def grantLoan (l : LaneId) (loan : Loan) (s : State) : State :=
  sendLoan { src := l, dst := loan.primary, kind := .grant, loan := loan }
    (s.modLane l fun x => { x with lentTo := some loan })

/-- Lane `l` acts on its new state: it activates its head, or its SPAN head asks for its partner (R52); with an empty
queue it grants the request its place holds (R57). -/
def laneAct (l : LaneId) (s : State) : State :=
  if freeForActivation s l then
    match (s.lane l).queue with
    | [] => s
    | h :: _ =>
      if isSpan (jobOf s h) then
        if (s.lane l).loanPhase = .idle then sendLoanRequest l h s else s
      else activateHead l s
  else if grantConditions s l then
    match (s.lane l).place with
    | none => s
    | some loan =>
      sendPlaceOpen l loan (grantLoan l loan (s.modLane l fun x => { x with place := none }))
  else s

/-! ### Leaving the queue -/

/-- The SPAN at lane `l`'s head loses its request: in ASKED a withdraw is sent, and the phase becomes IDLE; the
partner-held mark on the head goes with it (R60, R62). -/
def withdrawHead (l : LaneId) (s : State) : State :=
  let x := s.lane l
  let s1 : State :=
    match x.queue with
    | [] => s
    | h :: _ =>
      if x.loanPhase = .asked then
        sendLoan
          { src := l, dst := partnerOf (jobOf s h).fields, kind := .withdraw, loan := loanFor s l h x.loanNumber } s
      else s
  s1.modLane l fun x => { x with loanPhase := .idle, partnerMark := false }

/-- Job `j` leaves lane `l`'s queue otherwise than by activation; the others keep their order (R51). -/
def leaveQueue (l : LaneId) (j : SlotId) (s : State) : State :=
  let s1 := if (s.lane l).queue.head? = some j then withdrawHead l s else s
  s1.modLane l fun x => { x with queue := x.queue.erase j }

/-! ### The loan messages -/

/-- The partner `p` takes a loan request (R56). -/
def takeLoanRequest (p : LaneId) (loan : Loan) (s : State) : State :=
  match (s.lane p).place with
  | none =>
    if grantConditions s p then grantLoan p loan s
    else s.modLane p fun x => { x with place := some loan }
  | some other =>
    if other.primary = loan.primary then s.modLane p fun x => { x with place := some loan }
    else sendLoan { src := p, dst := loan.primary, kind := .defer, loan := loan } s

/-- Whether the head of lane `l` is the SPAN this loan names, in phase ASKED with the loan's number (R58, R59). -/
def asksFor (s : State) (l : LaneId) (loan : Loan) : Bool :=
  let x := s.lane l
  x.queue.head? == some loan.slot && isSpan (jobOf s loan.slot) && x.loanPhase == .asked
    && x.loanNumber == loan.number

/-- The primary `l` takes a grant from lane `p`: its SPAN head activates, or the grant is returned (R58, R61). -/
def takeGrant (l p : LaneId) (loan : Loan) (s : State) : State :=
  if asksFor s l loan then activateHead l s
  else sendLoan { src := l, dst := p, kind := .return, loan := loan } s

/-- The primary `l` takes a defer (R59). -/
def takeDefer (l : LaneId) (loan : Loan) (s : State) : State :=
  if asksFor s l loan then s.modLane l fun x => { x with loanPhase := .deferred } else s

/-- The partner `p` takes a withdraw: a place that holds the named request is emptied (R60). -/
def takeWithdraw (p : LaneId) (loan : Loan) (s : State) : State :=
  if (s.lane p).place.any loan.names then
    sendPlaceOpen p loan (s.modLane p fun x => { x with place := none })
  else s

/-- The partner `p` takes a return: a matching lent-to is cleared, and the lane acts on its new state (R61). -/
def takeReturn (p : LaneId) (loan : Loan) (s : State) : State :=
  if (s.lane p).lentTo.any loan.names then laneAct p (s.modLane p fun x => { x with lentTo := none }) else s

/-- Lane `l` takes a place-open notice from lane `p`: its DEFERRED SPAN head for that partner asks again (R59). -/
def takePlaceOpen (l p : LaneId) (s : State) : State :=
  let x := s.lane l
  match x.queue with
  | [] => s
  | h :: _ =>
    if isSpan (jobOf s h) && partnerOf (jobOf s h).fields == p && x.loanPhase == .deferred && x.active.isNone
        && x.lentTo.isNone && !x.hold then
      sendLoanRequest l h s
    else s

/-- A loan message of kind `k` from `src` to `dst` is taken while the controller is RUNNING (R54, R69, R168). A message
that is not the oldest in flight on its way is no event, and nothing is taken. -/
def withLoan (k : LoanMsgKind) (src dst : LaneId) (act : Loan → State → State) (s : State) :
    Host.Outcome State Fault Refusal :=
  if s.running then
    match takeLoan k src dst s with
    | none => .next s
    | some (loan, s1) => .next (act loan s1)
  else .next s

/-- LOAN_REQUEST (R56). -/
def execLoanRequest (src dst : LaneId) (s : State) : Host.Outcome State Fault Refusal :=
  withLoan .request src dst (takeLoanRequest dst) s

/-- GRANT (R58). -/
def execGrant (src dst : LaneId) (s : State) : Host.Outcome State Fault Refusal :=
  withLoan .grant src dst (takeGrant dst src) s

/-- DEFER (R59). -/
def execDefer (src dst : LaneId) (s : State) : Host.Outcome State Fault Refusal :=
  withLoan .defer src dst (takeDefer dst) s

/-- WITHDRAW (R60). -/
def execWithdraw (src dst : LaneId) (s : State) : Host.Outcome State Fault Refusal :=
  withLoan .withdraw src dst (takeWithdraw dst) s

/-- RETURN (R61). -/
def execLoanReturn (src dst : LaneId) (s : State) : Host.Outcome State Fault Refusal :=
  withLoan .return src dst (takeReturn dst) s

/-- PLACE_OPEN_NOTICE (R59). -/
def execPlaceOpenNotice (src dst : LaneId) (s : State) : Host.Outcome State Fault Refusal :=
  withLoan .placeOpen src dst (fun _ => takePlaceOpen dst src) s

end Sys2Proof.Machine
end

