-- ==== Sys2Proof/Machine/Jobs.lean ====
section
/-! DEFINITION. The life of a measurement job: the tag lookup (R49), the final account and the entry into POSTING (R65,
R84), the completion of a waiting CANCEL_JOB (R100), the ends of active and waiting jobs (R63, R64), and production with
staging or loss (R21 to R24, R71 to R74). -/

namespace Sys2Proof.Machine

/-! ### Tag lookups -/

/-- The outcome of a tag lookup (R49). -/
inductive Lookup where
  | live (slot : SlotId)
  | ended
  | absent
  deriving DecidableEq, Repr

/-- Whether slot `x` is in POSTING and holds an accepted measurement job of this ring and tag; a staging lane is set at
acceptance only, so a refused entry does not count (R44, R49, R123). -/
def endedJob (r : RingId) (tag : Tag) (x : Slot) : Bool :=
  x.state == .posting && x.stagingLane.isSome && x.ring == r && x.tag == tag

/-- The lookup of a tag on job ring `r`; ring 0 has no tag map (R48, R49). -/
def lookupTag (r : RingId) (tag : Tag) (s : State) : Lookup :=
  if r = 0 then .absent
  else
    match (s.tagMap r).find? fun e => e.tag == tag with
    | some e => .live e.slot
    | none => if allSlots.any fun j => endedJob r tag (s.slot j) then .ended else .absent

/-- The lookup for a ring byte of a request; a number outside 0 to 7 is ABSENT (R49). -/
def lookupByte (ring : Byte) (tag : Tag) (s : State) : Lookup :=
  match ringOf ring with
  | none => .absent
  | some r => lookupTag r tag s

/-! ### The final account -/

/-- The buffers a job holds, in order: the landing list, the current buffer, the queued buffers (R84). -/
def heldBuffers (x : Slot) : List Buffer := x.landing ++ x.current.toList ++ x.queued

/-- Whether the oldest buffer not yet retired holds a landed record (R75, R84). -/
def partlyFilled (x : Slot) : Bool := !(heldBuffers x).isEmpty && x.landed != 0

/-- The contents of a measurement job's FINAL (R84). -/
def finalAccount (x : Slot) : FinalBody :=
  .measurement x.flagsSeen x.writeFaultMark (if partlyFilled x then x.landed else 0)
    (BitVec.ofNat 8 ((heldBuffers x).length - (if partlyFilled x then 1 else 0))) x.lost x.written x.buffersRetired

/-- The contents of the FINAL of a refused measurement entry: every field 0 (R123). -/
def refusedAccount : FinalBody := .measurement {} false 0 0 0 0 0

/-- A WAITING CANCEL_JOB in slot `c` completes with status OK (R98, R99, R100). -/
def completeCancel (c : SlotId) (s : State) : State :=
  match (s.slot c).wait with
  | .cancel ring tag found => answer c .ok (.cancelJob ring (slotStateCode found) tag) s
  | _ => s

/-- Slot `j` enters POSTING: its tag leaves the map, its FINAL is created with its end status, and a CANCEL_JOB that
waits for it completes behind that FINAL (R65, R84, R100). DESIGN CHOICE (log entry 13; unsafe): when that FINAL is
discarded on a FAULTED report ring and completes a CLOSE_JOB_RING too, the close's FINAL is created before the
CANCEL_JOB's; R100, R156 and R166 give no order. -/
def enterPosting (j : SlotId) (s : State) : State :=
  let x := s.slot j
  let s1 := s.setTagMap x.ring ((s.tagMap x.ring).filter fun e => e.slot != j)
  let s2 := s1.modSlot j fun y => { y with state := .posting, cancelWaiter := none }
  let s3 := createReport j (.final (x.endStatus.getD .ok) (finalAccount x)) s2
  match x.cancelWaiter with
  | none => s3
  | some c => completeCancel c s3

/-- A DRAINING slot whose `outstanding` is 0 enters POSTING in the same event (R65). -/
def finishDraining (j : SlotId) (s : State) : State :=
  if (s.slot j).state = .draining ∧ (s.slot j).outstanding = 0 then enterPosting j s else s

/-! ### Ends -/

/-- The partner's lent-to reference is cleared when it names the SPAN in slot `j` with primary `l` (R37, R63). -/
def returnPartner (l : LaneId) (j : SlotId) (s : State) : State :=
  let p := partnerOf (jobOf s j).fields
  match (s.lane p).lentTo with
  | some loan =>
    if isSpan (jobOf s j) ∧ loan.primary = l ∧ loan.slot = j then s.modLane p fun x => { x with lentTo := none }
    else s
  | none => s

/-- Job `j`, active on lane `l`, ends with this status and leaves its lanes; the lanes do not act yet (R20, R37, R63). -/
def detachActive (l : LaneId) (j : SlotId) (st : Status) (s : State) : State :=
  let s1 := returnPartner l j s
  let s2 := s1.modLane l fun x => { x with active := none, ctx := none }
  s2.modSlot j fun x => { x.endWith st with state := .draining, startTimer := none }

/-- The lanes a job held act on their new state (R63). -/
def lanesAct (l : LaneId) (job : Job) (s : State) : State :=
  let s1 := laneAct l s
  if isSpan job then laneAct (partnerOf job.fields) s1 else s1

/-- Job `j`, active on lane `l`, ends with this status (R63). -/
def endActive (l : LaneId) (j : SlotId) (st : Status) (s : State) : State :=
  let job := jobOf s j
  finishDraining j (lanesAct l job (detachActive l j st s))

/-- Job `j`, waiting in lane `l`'s queue, ends with this status and leaves the queue; the lane does not act yet
(R51, R64). -/
def detachPending (l : LaneId) (j : SlotId) (st : Status) (s : State) : State :=
  (leaveQueue l j s).modSlot j fun x => { x.endWith st with state := .draining, startTimer := none }

/-- Job `j`, waiting in lane `l`'s queue, ends with this status (R64). -/
def endPending (l : LaneId) (j : SlotId) (st : Status) (s : State) : State :=
  laneAct l (finishDraining j (detachPending l j st s))

/-! ### Staging or loss -/

/-- A measurement as its kind fixes it (R21). -/
structure Measurement where
  value : BitVec 32
  aux : BitVec 32
  startTs : Stamp
  endTs : Stamp
  overflow : Bool := false
  edgeSeen : Bool := false
  deriving DecidableEq, Repr

/-- The record formed when a measurement of slot `j` is staged into the buffer `b` (R71, R72). DESIGN CHOICE (log entry
20; unsafe): a place address past the top of the address space wraps modulo 2^64; R72 does not say. -/
def formRecord (j : SlotId) (x : Slot) (b : Buffer) (index : BitVec 64) (m : Measurement) (flags : MeasFlags) :
    ResultRecord :=
  { slot := j
    place := b.base + BitVec.ofNat 64 (32 * x.reserved.toNat)
    index := index
    value := m.value
    aux := m.aux
    startTs := m.startTs
    endTs := m.endTs
    flags := flags
    afterLoss := x.lostSinceRecord != 0
    lostBefore := x.lostSinceRecord }

/-- A place of the current buffer `b` is reserved; a buffer it fills moves to the landing list, and the oldest queued
buffer becomes current (R72, R74). DESIGN CHOICE (log entry 23; unsafe): the counter `reserved` becomes 0 also when no
buffer is queued and the job is starved; R74 gives it no value there. -/
def reservePlace (b : Buffer) (x : Slot) : Slot :=
  let y := { x with reserved := x.reserved + 1, lostSinceRecord := 0, outstanding := x.outstanding + 1 }
  if x.reserved + 1 = b.capacity then
    { y with landing := x.landing ++ [b], current := x.queued.head?, queued := x.queued.tail, reserved := 0 }
  else y

/-- A measurement is lost (R73). -/
def countLost (x : Slot) : Slot :=
  { x with lost := satInc x.lost, lostSinceRecord := satInc x.lostSinceRecord }

/-- The buffer into which a measurement of slot `x` can be staged on lane `y`: the current buffer, when it has a free
place and the staging FIFO holds fewer than 4 records (R72). -/
def stagingBuffer (x : Slot) (y : Lane) : Option Buffer :=
  match x.current with
  | none => none
  | some b => if x.reserved < b.capacity ∧ y.fifo.length < Config.stagingDepth then some b else none

/-- A produced measurement is staged on lane `l` or lost (R72, R73). -/
def stageOrLose (l : LaneId) (j : SlotId) (index : BitVec 64) (m : Measurement) (flags : MeasFlags) (s : State) :
    State :=
  let x := s.slot j
  match stagingBuffer x (s.lane l) with
  | some b =>
    (s.modLane l fun y => { y with fifo := y.fifo ++ [formRecord j x b index m flags] }).modSlot j (reservePlace b)
  | none => s.modSlot j countLost

/-! ### Production -/

/-- The status with which a production ends the job, when it does: stop-on-band comes before the repeat count (R22,
R24). `produced` is the count after the production. -/
def productionEnd (job : Job) (flags : MeasFlags) (produced : BitVec 64) : Option Status :=
  if job.fields.stopOnBand && bandTrigger job flags then some .bandStop
  else if job.fields.repeatCount ≠ 0 ∧ produced = job.fields.repeatCount.setWidth 64 then some .ok
  else none

/-- The accounts of a production: its index, `produced`, the flags seen, and staging or loss (R21, R72, R73). -/
def accountProduction (l : LaneId) (j : SlotId) (m : Measurement) (flags : MeasFlags) (s : State) : State :=
  let index := (s.slot j).produced
  let s1 := s.modSlot j fun x => { x with produced := x.produced + 1, flagsSeen := x.flagsSeen.union flags }
  stageOrLose l j index m flags s1

/-- A measurement of job `j` is produced on lane `l`. Unless the production ends the job, the context becomes `next`
(R21, R22, R24). -/
def produce (l : LaneId) (j : SlotId) (m : Measurement) (next : Context) (s : State) : State :=
  let job := jobOf s j
  let flags := measurementFlags job m.value m.overflow m.edgeSeen
  let s1 := accountProduction l j m flags s
  match productionEnd job flags (s1.slot j).produced with
  | some st => endActive l j st s1
  | none => s1.modLane l fun x => { x with ctx := some next }

end Sys2Proof.Machine
end

