-- ==== Sys2Proof/Machine/Measure.lean ====
section
/-! DEFINITION. The measurement kinds (chapter 2) and the events of the lanes and timers: edge arrivals (R6, R10),
aligned arrivals of a SPAN (R35, R36), window-end and overflow expiries (R30, R33, R37, R40, R42), start-limit and
coalescing expiries (R26, R143), and the tick of the timebase with sampler and glitch filter (R1, R2, R13). -/

namespace Sys2Proof.Machine

/-! ### Lane-side expiries -/

/-- The measurement an overflow produces (R30, R33, R37). -/
def overflowMeasurement (job : Job) (c : Context) (p : Expiry) : Measurement :=
  { value := BitVec.allOnes 32
    aux := if job.kind = .cycles then job.fields.divider.setWidth 32 else 0
    startTs := c.startTs
    endTs := p.nominal
    overflow := true }

/-- The measurement a window end produces: the count of a TALLY, the first-edge offset of a QUIET (R40, R42). -/
def windowMeasurement (job : Job) (c : Context) (p : Expiry) : Measurement :=
  match job.kind with
  | .quiet =>
    { value := c.firstEdge.getD (BitVec.allOnes 32), aux := job.fields.window, startTs := c.startTs,
      endTs := p.nominal, edgeSeen := c.firstEdge.isSome }
  | _ =>
    { value := c.edgeCounter, aux := job.fields.window, startTs := c.startTs, endTs := p.nominal,
      overflow := c.saturated }

/-- The pending expiry of the context on lane `l` is taken (R30, R33, R37, R40, R42). -/
def takeExpiry (l : LaneId) (s : State) : State :=
  match (s.lane l).ctx, (s.lane l).active with
  | some c, some j =>
    let job := jobOf s j
    match c.pending with
    | none => s
    | some p =>
      match p.kind with
      | .overflow => produce l j (overflowMeasurement job c p) (rearm c) s
      | .windowEnd =>
        produce l j (windowMeasurement job c p) (openWindow job.fields (settleInterval s l job) p.nominal c) s
  | _, _ => s

/-- The pending expiry of the context on lane `l`. -/
def pendingExpiry (s : State) (l : LaneId) : Option Expiry :=
  match (s.lane l).ctx with
  | none => none
  | some c => c.pending

/-- The expiries an arrival stamped `t` belongs after are taken first, one after the other (R10). -/
def takeExpiriesUpTo : Nat → LaneId → Stamp → State → State
  | 0, _, _, s => s
  | k + 1, l, t, s =>
    match pendingExpiry s l with
    | none => s
    | some p => if atOrAfter t p.nominal then takeExpiriesUpTo k l t (takeExpiry l s) else s

/-- How many expiries of the context on lane `l` an arrival stamped `t` can belong after: one overflow bound, or each
window that ends at or before `t`. When every event is taken at its instant this is one (R10). -/
def expiriesUpTo (s : State) (l : LaneId) (t : Stamp) : Nat :=
  match pendingExpiry s l, (s.lane l).active with
  | some p, some j =>
    match p.kind with
    | .overflow => 1
    | .windowEnd => elapsed p.nominal t / windowTicks (jobOf s j).fields + 1
  | _, _ => 0

/-- Every pending expiry of lane `l`'s context that an arrival stamped `t` belongs after is taken (R10). -/
def takeExpiriesBefore (l : LaneId) (t : Stamp) (s : State) : State :=
  takeExpiriesUpTo (expiriesUpTo s l t) l t s

/-! ### An arrival at a context -/

/-- The job's start is taken: its start-limit timer is withdrawn (R25). -/
def takeStart (j : SlotId) (s : State) : State := s.modSlot j fun x => { x with startTimer := none }

/-- The context of lane `l` becomes `c`. -/
def setContext (l : LaneId) (c : Context) (s : State) : State := s.modLane l fun x => { x with ctx := some c }

/-- The measurement a stop edge ends (R29, R36), with `aux` the polarity of the edge. -/
def stopMeasurement (job : Job) (c : Context) (a : Arrival) : Measurement :=
  { value := duration c.startTs a.stamp (prescaleTicks job.fields.prescale)
    aux := polarityCode a.polarity
    startTs := c.startTs
    endTs := a.stamp }

/-- An arrival at a WIDTH context (R28, R29). -/
def widthArrival (l : LaneId) (j : SlotId) (c : Context) (a : Arrival) (s : State) : State :=
  let job := jobOf s j
  let e := job.fields
  match c.phase with
  | .armed =>
    if matchesSpec e.startSpec a.polarity then
      takeStart j (setContext l (startMeasuring e (settleInterval s l job) a.stamp c) s)
    else s
  | .measuring =>
    if matchesSpec e.stopSpec a.polarity then
      produce l j (stopMeasurement job c a)
        (if e.adjoin && matchesSpec e.startSpec a.polarity then
          startMeasuring e (settleInterval s l job) a.stamp c
        else rearm c) s
    else s
  | _ => s

/-- An arrival at a CYCLES context (R31, R32). -/
def cyclesArrival (l : LaneId) (j : SlotId) (c : Context) (a : Arrival) (s : State) : State :=
  let job := jobOf s j
  let e := job.fields
  if matchesSpec e.startSpec a.polarity then
    match c.phase with
    | .armed => takeStart j (setContext l (startMeasuring e (settleInterval s l job) a.stamp c) s)
    | .measuring =>
      if c.edgeCounter + 1 = e.divider.setWidth 32 then
        produce l j
          { value := duration c.startTs a.stamp (prescaleTicks e.prescale), aux := e.divider.setWidth 32,
            startTs := c.startTs, endTs := a.stamp }
          (startMeasuring e (settleInterval s l job) a.stamp c) s
      else setContext l { c with edgeCounter := c.edgeCounter + 1 } s
    | _ => s
  else s

/-- An arrival from lane `src` at the context of a SPAN with primary lane `l` (R36). -/
def spanArrival (l : LaneId) (j : SlotId) (src : LaneId) (c : Context) (a : Arrival) (s : State) : State :=
  let job := jobOf s j
  let e := job.fields
  match c.phase with
  | .armed =>
    if src = l ∧ matchesSpec e.startSpec a.polarity then
      takeStart j (setContext l (startMeasuring e (settleInterval s l job) a.stamp c) s)
    else s
  | .measuring =>
    if src ≠ l ∧ matchesSpec e.stopSpec a.polarity ∧ earlier c.startTs a.stamp then
      produce l j (stopMeasurement job c a) (rearm c) s
    else s
  | _ => s

/-- A stop-spec edge in a window: TALLY counts it, saturating (R39); QUIET keeps the offset of the first (R41). -/
def countInWindow (job : Job) (a : Arrival) (c : Context) : Context :=
  if matchesSpec job.fields.stopSpec a.polarity then
    match job.kind with
    | .quiet =>
      match c.firstEdge with
      | none => { c with firstEdge := some (duration c.startTs a.stamp (prescaleTicks job.fields.prescale)) }
      | some _ => c
    | _ =>
      if c.edgeCounter = BitVec.allOnes 32 then { c with saturated := true }
      else { c with edgeCounter := c.edgeCounter + 1 }
  else c

/-- An arrival at a TALLY or QUIET context (R38, R39, R41). -/
def windowArrival (l : LaneId) (j : SlotId) (c : Context) (a : Arrival) (s : State) : State :=
  let job := jobOf s j
  match c.phase with
  | .armed =>
    if matchesSpec job.fields.startSpec a.polarity then
      takeStart j
        (setContext l (countInWindow job a (openWindow job.fields (settleInterval s l job) a.stamp c)) s)
    else s
  | .window => setContext l (countInWindow job a c) s
  | _ => s

/-- An arrival from lane `src` is taken against the context on lane `l`, in the state it stands in: ignored in HELD and
before the accept-from (R7, R43), else as the job's kind specifies. -/
def arrivalAtContext (l src : LaneId) (a : Arrival) (s : State) : State :=
  match (s.lane l).ctx, (s.lane l).active with
  | some c, some j =>
    if c.phase = .held ∨ earlier a.stamp c.acceptFrom then s
    else
      match (jobOf s j).kind with
      | .width => widthArrival l j c a s
      | .cycles => cyclesArrival l j c a s
      | .span => spanArrival l j src c a s
      | .tally => windowArrival l j c a s
      | .quiet => windowArrival l j c a s
  | _, _ => s

/-- The lane whose context takes an arrival at lane `l`, when one does: the primary of the SPAN that `l` is lent to,
while that SPAN is its active job, or `l` itself (R6, R61). A grant on its way to a SPAN that has ended leaves `l` lent
to no active job: another job of the primary, even one in the slot the SPAN had, takes no arrival of `l`. -/
def contextLane (s : State) (l : LaneId) : Option LaneId :=
  let x := s.lane l
  if !s.running || x.hold then none
  else
    match x.lentTo with
    | some loan =>
      if (s.lane loan.primary).active = some loan.slot ∧ activeSpanOn s loan.primary l then some loan.primary else none
    | none => if x.active.isSome then some l else none

/-- An arrival is taken at lane `l` against the context that takes it now, with nothing pending before it (R6). -/
def arrivalNow (l : LaneId) (a : Arrival) (s : State) : State :=
  match contextLane s l with
  | none => s
  | some p => arrivalAtContext p l a s

/-! ### The alignment list of a SPAN -/

/-- An arrival takes its place in an alignment list, in the order of the timestamps; behind one with the same timestamp
(R35). -/
def insertAligned (src : LaneId) (a : Arrival) : List (LaneId × Arrival) → List (LaneId × Arrival)
  | [] => [(src, a)]
  | b :: rest => if earlier a.stamp b.2.stamp then (src, a) :: b :: rest else b :: insertAligned src a rest

/-- Whether an arrival of the SPAN on lane `l` stamped `t` is due: the timebase has reached `t` plus S (R35). -/
def alignedDue (s : State) (l : LaneId) (j : SlotId) (t : Stamp) : Bool :=
  atOrAfter s.timebase (later t (settleInterval s l (jobOf s j)))

/-- The oldest arrival of the alignment list on lane `l` is taken when it is due (R35, R36). The overflow bound it
belongs after is taken first; when that ends the job, the arrival reaches the lane it came from in the state the end
leaves (R10). -/
def takeAligned (l : LaneId) (s : State) : State :=
  match (s.lane l).ctx, (s.lane l).active with
  | some c, some j =>
    match c.alignment with
    | [] => s
    | (src, a) :: rest =>
      if alignedDue s l j a.stamp then
        let s1 := takeExpiriesBefore l a.stamp (setContext l { c with alignment := rest } s)
        if (s1.lane l).active = some j then arrivalAtContext l src a s1 else arrivalNow src a s1
      else s
  | _, _ => s

/-- Up to `k` arrivals of the alignment list on lane `l` that are due are taken, in order (R35). -/
def takeAlignedUpTo : Nat → LaneId → State → State
  | 0, _, s => s
  | k + 1, l, s => takeAlignedUpTo k l (takeAligned l s)

/-! ### An arrival at a lane -/

/-- An arrival reaches lane `l` (R6). It is ignored in HELD and before the accept-from (R7). At a SPAN's context it
takes its place in the alignment list, and when it is due already it is taken at once, behind those ahead of it (R35).
At any other context the expiries it belongs after are taken first, and it is taken in the state they leave (R10). -/
def takeArrival (l : LaneId) (a : Arrival) (s : State) : State :=
  match contextLane s l with
  | none => s
  | some p =>
    match (s.lane p).ctx, (s.lane p).active with
    | some c, some j =>
      if c.phase = .held ∨ earlier a.stamp c.acceptFrom then s
      else if isSpan (jobOf s j) then
        let s1 := setContext p { c with alignment := insertAligned l a c.alignment } s
        if alignedDue s p j a.stamp then takeAlignedUpTo (c.alignment.length + 1) p s1 else s1
      else arrivalNow l a (takeExpiriesBefore p a.stamp s)
    | _, _ => s

/-- EDGE_ARRIVAL (R6): the oldest arrival that lane `l`'s filter has formed and that is not yet taken is taken, when it
is this one; an arrival that the filter has not formed is no event, and nothing is taken (R2, R4). -/
def execEdgeArrival (l : LaneId) (polarity : Polarity) (stamp : Stamp) (s : State) :
    Host.Outcome State Fault Refusal :=
  match (s.lane l).formed with
  | [] => .next s
  | a :: rest =>
    if a = ⟨polarity, stamp⟩ then
      .next (settle (takeArrival l a (s.modLane l fun x => { x with formed := rest })))
    else .next s

/-- Whether the oldest arrival of the alignment list on lane `l` is due, with the controller RUNNING (R35). -/
def alignedHeadDue (l : LaneId) (s : State) : Bool :=
  match (s.lane l).ctx, (s.lane l).active with
  | some c, some j =>
    match c.alignment with
    | [] => false
    | (_, a) :: _ => s.running && alignedDue s l j a.stamp
  | _, _ => false

/-- ALIGNED_ARRIVAL_DUE (R35). -/
def execAlignedArrivalDue (l : LaneId) (s : State) : Host.Outcome State Fault Refusal :=
  if alignedHeadDue l s then .next (settle (takeAligned l s)) else .next s

/-- Whether the context on lane `l` has a pending expiry of this kind and the timebase has reached it, with the
controller RUNNING (R9, R12). -/
def expiryDue (k : ExpiryKind) (l : LaneId) (s : State) : Bool :=
  match pendingExpiry s l with
  | none => false
  | some p => s.running && p.kind == k && atOrAfter s.timebase p.due

/-- WINDOW_END_EXPIRY (R40, R42). -/
def execWindowEndExpiry (l : LaneId) (s : State) : Host.Outcome State Fault Refusal :=
  if expiryDue .windowEnd l s then .next (settle (takeExpiry l s)) else .next s

/-- OVERFLOW_BOUND_EXPIRY (R30, R33, R37). -/
def execOverflowBoundExpiry (l : LaneId) (s : State) : Host.Outcome State Fault Refusal :=
  if expiryDue .overflow l s then .next (settle (takeExpiry l s)) else .next s

/-! ### Timers without a settle interval -/

/-- Whether a timer runs and the timebase has reached it (R15). -/
def timerDue (s : State) (timer : Option Stamp) : Bool :=
  match timer with
  | none => false
  | some due => s.running && atOrAfter s.timebase due

/-- The start limit of slot `j` ends its job (R26). -/
def takeStartLimit (j : SlotId) (s : State) : State :=
  match (s.slot j).stagingLane with
  | none => s
  | some l =>
    match (s.slot j).state with
    | .pending => endPending l j .startTimeout s
    | .active => endActive l j .startTimeout s
    | _ => s

/-- START_LIMIT_EXPIRY (R26). An expiry whose timer has been withdrawn does not exist, and nothing is taken. -/
def execStartLimitExpiry (j : SlotId) (s : State) : Host.Outcome State Fault Refusal :=
  if timerDue s (s.slot j).startTimer then .next (settle (takeStartLimit j s)) else .next s

/-- The coalescing timer of ring `n` requests a message for the reports counted (R143). -/
def takeCoalescing (n : RingId) (s : State) : State :=
  if 0 < (s.poster n).unsignalled then
    requestMessage n (s.modPoster n fun p => { p with unsignalled := 0, timer := none })
  else s

/-- COALESCING_TIMER_EXPIRY (R143). -/
def execCoalescingTimerExpiry (n : RingId) (s : State) : Host.Outcome State Fault Refusal :=
  if timerDue s (s.poster n).timer then .next (settle (takeCoalescing n s)) else .next s

/-! ### The reference clock -/

/-- A transition qualifies: the filtered level takes the new level, the candidate becomes absent, and an arrival with
the transition's timestamp is formed (R2, R4). -/
def qualify (level : Bool) (stamp : Stamp) (x : Lane) : Lane :=
  { x with
    filtered := level
    candidate := none
    formed := x.formed ++ [⟨if level then .rise else .fall, stamp⟩] }

/-- One sample of a lane at timebase value `now`: invert, then the glitch filter's table (R1, R2). A candidate stands
only while every sample since has shown the new level, so the samples after it number the ticks elapsed. -/
def sampleLane (now : Stamp) (raw : Bool) (x : Lane) : Lane :=
  let level := raw != x.invert
  if level = x.filtered then { x with candidate := none }
  else
    match x.candidate with
    | none => if x.filterWidth = 0 then qualify level now x else { x with candidate := some now }
    | some t => if x.filterWidth.toNat ≤ elapsed t now then qualify level t x else x

/-- BASE_TICK (R1, R2, R13): the count increases by one, wrapping after 2^48 − 1, and each lane samples its input, in
every controller state. -/
def execBaseTick (levels : BitVec 16) (s : State) : Host.Outcome State Fault Refusal :=
  let now := s.timebase + 1
  .next
    { s with
      timebase := now
      line := levels
      lanes := Vector.ofFn fun l : Fin 16 => sampleLane now (levels.getLsbD l.val) (s.lane l) }

end Sys2Proof.Machine
end

