-- ==== Sys2Proof/Machine/Dispatcher.lean ====
section
/-! DEFINITION. The Dispatcher (section 6.5): the completion of the fetch read in flight (R115), the stop of a
controller whose last access it was (R180), refusals (R120, R123, R148), and the measurement entries with the check order
of R121 and R18, the offer to the lane (R50), and ADD_BUFFER (R79, R80). -/

namespace Sys2Proof.Machine

/-! ### Completions and the end of a stop -/

/-- The lane at the end of a stop: filter 0, invert off, owner none, and the filtered level set from the line with no
candidate and no arrival (R3, R16, R180). -/
def stoppedLane (raw : Bool) (x : Lane) : Lane :=
  { x with
    filterWidth := 0, invert := false, owner := none, filtered := raw, candidate := none, formed := [] }

/-- The stop ends: the controller becomes OFF (R180). -/
def endStop (s : State) : State :=
  { s with
    ctl := .off
    lanes := Vector.ofFn fun l : Fin 16 => stoppedLane (s.line.getLsbD l.val) (s.lane l)
    port := {} }

/-- A stop ends in the event in which the outstanding-access count is 0 (R180). -/
def endStopIfDone (s : State) : State :=
  if s.ctl = .stopping ∧ s.accesses = [] then endStop s else s

/-- The access `a` is finished. In RUNNING its block takes the completion by `act`, and the event is closed by the fetch
and grant decisions; in every other state only the outstanding-access count moves (R162, R180). An access that is not
outstanding cannot be finished, and nothing is taken. -/
def finishing (a : Access) (act : State → State) (s : State) : State :=
  if a ∈ s.accesses then
    let s1 := finishAccess a s
    if s1.running then settle (act s1) else endStopIfDone s1
  else s

/-- The slot of an entry that has arrived: its kind, tag and decoded fields are set (R44). -/
def Slot.hold (x : Slot) (e : Entry) : Slot :=
  { x with kindCode := e.kindCode, tag := e.tag, job := e.job, request := e.request }

/-- The entry of a measurement job (R44). -/
def measurementEntry (kind : MeasKind) (e : MeasEntry) : Entry :=
  { kindCode := kindCode (entryKindOf kind), tag := e.tag, job := some { kind := kind, fields := e } }

/-- The entry of an ADD_BUFFER or of a control request (R44). -/
def requestEntry (k : EntryKind) (tag : Tag) (r : Request) : Entry :=
  { kindCode := kindCode k, tag := tag, request := some r }

/-- The fetch read in flight has completed with the entry `e`: the head advances, the slot holds the entry, and the
Dispatcher takes it, fetched from ring `r` into slot `j`, by `act r j` (R44, R115). -/
def takeEntry (e : Entry) (act : RingId → SlotId → State → State) (s : State) : State :=
  match s.fetch with
  | none => s
  | some f =>
    if (s.jobRing f.ring).state = .open then
      let s1 := { s with fetch := none }
      let s2 := s1.modJobRing f.ring fun q => { q with head := (q.head + 1) % q.size }
      act f.ring f.slot (s2.modSlot f.slot fun x => x.hold e)
    else s

/-- The command of a fetched entry (R115, R162). -/
def fetched (e : Entry) (act : RingId → SlotId → State → State) (s : State) : Host.Outcome State Fault Refusal :=
  .next (finishing .fetch (takeEntry e act) s)

/-! ### The checks of a measurement entry -/

/-- Step 3 of the check order: the first failing test of R18. -/
def fieldCheck (kind : MeasKind) (e : MeasEntry) : Option Status :=
  if 16 ≤ e.lane.toNat then some .badLane
  else if kind = .span ∧ 16 ≤ e.partner.toNat then some .badLane
  else if kind = .span ∧ e.partner = e.lane then some .badLane
  else if 3 < e.prescale.toNat then some .badField
  else if 3 < e.startSpec.toNat then some .badField
  else if (kind = .width ∨ kind = .cycles ∨ kind = .span) ∧ e.startSpec = 0 then some .badField
  else if kind ≠ .cycles ∧ (e.stopSpec = 0 ∨ 3 < e.stopSpec.toNat) then some .badField
  else if kind ≠ .width ∧ e.adjoin = true then some .badField
  else if kind = .cycles ∧ (e.divider = 0 ∨ 4096 < e.divider.toNat) then some .badField
  else if (kind = .tally ∨ kind = .quiet) ∧ e.window = 0 then some .badField
  else if kind ≠ .quiet ∧ e.bandEnable = true ∧ e.bandHigh < e.bandLow then some .badField
  else none

/-- Whether a result buffer can be taken: its base is a multiple of 32 and its capacity is not 0 (R79, R121). -/
def bufferValid (address : Addr) (capacity : BitVec 16) : Bool := aligned32 address && capacity != 0

/-- Steps 1 to 5 of the check order (R121), the tests of the Dispatcher and the Job Table. -/
def measurementCheck (kind : MeasKind) (r : RingId) (e : MeasEntry) (s : State) : Option Status :=
  if r = 0 then some .badKind
  else if e.tag = Config.noTag then some .badField
  else
    match fieldCheck kind e with
    | some st => some st
    | none =>
      if !bufferValid e.address e.capacity then some .badBuffer
      else
        match lookupTag r e.tag s with
        | .live _ => some .dupTag
        | _ => none

/-- The answer of a lane to an offer: a refusal, or none when it accepts (R50, R121 steps 6 and 7). -/
def offerCheck (r : RingId) (x : Lane) : Option Status :=
  if x.owner ≠ none ∧ x.owner ≠ some r then some .notOwner
  else if Config.laneQueueDepth ≤ x.queue.length then some .queueFull
  else none

/-- The slot of an accepted measurement job (R25, R44, R50, R75). -/
def acceptedSlot (e : MeasEntry) (l : LaneId) (now : Stamp) (x : Slot) : Slot :=
  { x with
    state := .pending
    stagingLane := some l
    current := some { base := e.address, capacity := e.capacity }
    reserved := 0
    landed := 0
    queued := []
    startTimer :=
      if e.startLimit = 0 then none else some (later now (e.startLimit.toNat * Config.ticksPerMs)) }

/-- The lane takes an offer it accepts: the slot is appended to its queue, the tag enters the ring's map, and the job
acts at once when it is alone in the queue of a lane free for activation (R48, R50, R52, R54). -/
def acceptOffer (r : RingId) (j : SlotId) (e : MeasEntry) (l : LaneId) (s : State) : State :=
  let alone := (s.lane l).queue.isEmpty
  let s1 := s.modSlot j (acceptedSlot e l s.timebase)
  let s2 := s1.setTagMap r (s1.tagMap r ++ [{ tag := e.tag, slot := j }])
  if alone then
    laneAct l (s2.modLane l fun x => { x with queue := [j], loanPhase := .idle, partnerMark := false })
  else s2.modLane l fun x => { x with queue := x.queue ++ [j] }

/-- A measurement entry is dispatched (R121). -/
def dispatchMeasurement (kind : MeasKind) (e : MeasEntry) (r : RingId) (j : SlotId) (s : State) : State :=
  match measurementCheck kind r e s with
  | some st => answer j st refusedAccount s
  | none =>
    match laneOf e.lane with
    | none => answer j .badLane refusedAccount s
    | some l =>
      match offerCheck r (s.lane l) with
      | some st => answer j st refusedAccount s
      | none => acceptOffer r j e l s

/-- WIDTH (R121). -/
def execWidth (e : MeasEntry) (s : State) : Host.Outcome State Fault Refusal :=
  fetched (measurementEntry .width e) (dispatchMeasurement .width e) s

/-- CYCLES (R121). -/
def execCycles (e : MeasEntry) (s : State) : Host.Outcome State Fault Refusal :=
  fetched (measurementEntry .cycles e) (dispatchMeasurement .cycles e) s

/-- SPAN (R121). -/
def execSpan (e : MeasEntry) (s : State) : Host.Outcome State Fault Refusal :=
  fetched (measurementEntry .span e) (dispatchMeasurement .span e) s

/-- TALLY (R121). -/
def execTally (e : MeasEntry) (s : State) : Host.Outcome State Fault Refusal :=
  fetched (measurementEntry .tally e) (dispatchMeasurement .tally e) s

/-- QUIET (R121). -/
def execQuiet (e : MeasEntry) (s : State) : Host.Outcome State Fault Refusal :=
  fetched (measurementEntry .quiet e) (dispatchMeasurement .quiet e) s

/-- UNDEFINED_KIND_ENTRY (R120, R123): refused with BAD_KIND on every ring. A term with a defined kind code is ill
formed and is no event of the part. -/
def execUndefinedKindEntry (code : Byte) (tag : Tag) (s : State) : Host.Outcome State Fault Refusal :=
  if (kindOfCode code).isSome then .refused (.kindCodeDefined code)
  else fetched { kindCode := code, tag := tag } (fun _ j s => answer j .badKind .empty s) s

/-! ### ADD_BUFFER -/

/-- The job that an ADD_BUFFER may feed: live, and PENDING or ACTIVE (R79). -/
def feedTarget (r : RingId) (target : Tag) (s : State) : Except Status SlotId :=
  match lookupTag r target s with
  | .absent => .error .notFound
  | .ended => .error .tooLate
  | .live t =>
    if (s.slot t).state = .pending ∨ (s.slot t).state = .active then .ok t else .error .tooLate

/-- The buffer enters the target's buffer list: it becomes current when the target is starved, else it is queued
(R80). -/
def appendBuffer (b : Buffer) (x : Slot) : Slot :=
  match x.current with
  | none => { x with current := some b, reserved := 0 }
  | some _ => { x with queued := x.queued ++ [b] }

/-- The position an accepted buffer took (R80). -/
def bufferPosition (x : Slot) : Byte :=
  match x.current with
  | none => 0
  | some _ => BitVec.ofNat 8 (x.queued.length + 1)

/-- An ADD_BUFFER entry is dispatched (R79, R80, R148). -/
def dispatchAddBuffer (e : AddBufferEntry) (r : RingId) (j : SlotId) (s : State) : State :=
  if r = 0 then answer j .badKind (.addBuffer 0 0) s
  else if e.tag = Config.noTag then answer j .badField (.addBuffer e.target 0) s
  else if !bufferValid e.address e.capacity then answer j .badBuffer (.addBuffer e.target 0) s
  else
    match feedTarget r e.target s with
    | .error st => answer j st (.addBuffer e.target 0) s
    | .ok t =>
      if Config.queuedBufferDepth ≤ (s.slot t).queued.length then answer j .listFull (.addBuffer e.target 0) s
      else
        answer j .ok (.addBuffer e.target (bufferPosition (s.slot t)))
          (s.modSlot t (appendBuffer { base := e.address, capacity := e.capacity }))

/-- ADD_BUFFER (R79). -/
def execAddBuffer (e : AddBufferEntry) (s : State) : Host.Outcome State Fault Refusal :=
  fetched (requestEntry .addBuffer e.tag (.addBuffer e)) (dispatchAddBuffer e) s

/-- FETCH_READ_FAULT (R117): the ring becomes FAULTED, the slot FREE, and FETCH_FAULT is raised. -/
def takeFetchFault (s : State) : State :=
  match s.fetch with
  | none => s
  | some f =>
    if (s.jobRing f.ring).state = .open then
      let s1 := { s with fetch := none }
      let s2 := s1.modJobRing f.ring fun q => { q with state := .faulted }
      raiseEvent (.fetchFault f.ring f.index) (s2.modSlot f.slot fun x => { x with state := .free, reports := [] })
    else s

/-- FETCH_READ_FAULT (R117, R163, R164). -/
def execFetchReadFault (s : State) : Host.Outcome State Fault Refusal :=
  .next (finishing .fetch takeFetchFault s)

end Sys2Proof.Machine
end

