-- ==== Sys2Proof/Machine/Completions.lean ====
section
/-! DEFINITION. Completions and faults of the writes to host memory (R77, R78, R82, R93, R136, R165, R167) and the
acceptance of a write by the link (R141). -/

namespace Sys2Proof.Machine

/-! ### Drain marks -/

/-- A drain mark of the HOLD_LANE in slot `h` is cleared: its count falls by one, and at 0 the request completes with
status OK and the contents it took when it was accepted (R93). -/
def lowerHold (h : SlotId) (s : State) : State :=
  match (s.slot h).wait with
  | .hold marks lane ring tag abandoned =>
    if marks ≤ 1 then answer h .ok (.holdLane lane ring tag abandoned) s
    else s.modSlot h fun x => { x with wait := .hold (marks - 1) lane ring tag abandoned }
  | _ => s

/-- Whether a drain mark names this record (R92). -/
def DrainMark.names (m : DrainMark) (r : ResultRecord) : Bool :=
  m.recordSlot == r.slot && m.recordIndex == r.index

/-- Records have left lane `l`: the drain marks that name one of them are cleared (R93). -/
def clearMarks (l : LaneId) (gone : List ResultRecord) (s : State) : State :=
  let hit := fun m : DrainMark => gone.any m.names
  let marks := (s.lane l).drainMarks
  (marks.filter hit).foldl (fun s m => lowerHold m.holder s)
    (s.modLane l fun x => { x with drainMarks := marks.filter fun m => !hit m })

/-! ### Record writes -/

/-- The oldest buffer not yet retired: the first of the landing list, else the current one (R75). -/
def oldestBuffer (x : Slot) : Option Buffer :=
  match x.landing with
  | b :: _ => some b
  | [] => x.current

/-- The oldest buffer leaves its list: the landing list, or the buffer list when it is still current (R78). DESIGN
CHOICE (log entry 24; safe, not reached): when it is still current, the oldest queued buffer becomes current with
`reserved` 0, as under R74; R78 does not say. -/
def dropOldest (x : Slot) : Slot :=
  match x.landing with
  | _ :: rest => { x with landing := rest }
  | [] => { x with current := x.queued.head?, queued := x.queued.tail, reserved := 0 }

/-- A record of slot `j` has landed (R77); a buffer whose places have all landed is retired and reported (R78). -/
def landRecord (j : SlotId) (s : State) : State :=
  let s1 := s.modSlot j fun x =>
    { x with written := x.written + 1, landed := x.landed + 1, outstanding := x.outstanding - 1 }
  match oldestBuffer (s1.slot j) with
  | none => s1
  | some b =>
    if (s1.slot j).landed = b.capacity then
      reportRetirement j b
        (s1.modSlot j fun x => { dropOldest x with landed := 0, buffersRetired := satInc x.buffersRetired })
    else s1

/-- Whether a slot can have a record staged or in flight: ACTIVE or DRAINING (R77). -/
def holdsRecords (x : Slot) : Bool := x.state == .active || x.state == .draining

/-- The write of the record in lane `l`'s write slot completes (R77): the record lands, its drain marks are cleared, and
a DRAINING slot with nothing outstanding enters POSTING. A retirement is reported first. -/
def takeRecordCompletion (l : LaneId) (s : State) : State :=
  match (s.lane l).writeSlot with
  | none => s
  | some r =>
    let s1 := s.modLane l fun x => { x with writeSlot := none }
    if holdsRecords (s.slot r.slot) then
      finishDraining r.slot (clearMarks l [r] (landRecord r.slot s1))
    else clearMarks l [r] s1

/-- RECORD_WRITE_COMPLETION (R77). -/
def execRecordWriteCompletion (l : LaneId) (s : State) : Host.Outcome State Fault Refusal :=
  .next (finishing (.record l) (takeRecordCompletion l) s)

/-- `n` staged records of a slot are counted lost and given up (R82). DESIGN CHOICE (log entry 21; unsafe): the counter
`reserved` stays as it stands; R82 does not list it, and nothing reads it afterwards. -/
def countDiscarded (n : Nat) (x : Slot) : Slot :=
  { x with lost := satAdd x.lost n, outstanding := x.outstanding - BitVec.ofNat 8 n, writeFaultMark := true }

/-- The write of the record in lane `l`'s write slot faults (R82): it and every staged record of its job are counted
lost; an ACTIVE job ends with WRITE_FAULT, and a DRAINING one passes on to POSTING with the status it has. -/
def takeRecordFault (l : LaneId) (s : State) : State :=
  match (s.lane l).writeSlot with
  | none => s
  | some r =>
    let gone := r :: (s.lane l).fifo.filter fun q => q.slot == r.slot
    let s1 := s.modLane l fun x =>
      { x with writeSlot := none, fifo := x.fifo.filter fun q => !(q.slot == r.slot) }
    if holdsRecords (s.slot r.slot) then
      let s2 := clearMarks l gone (s1.modSlot r.slot (countDiscarded gone.length))
      if (s2.slot r.slot).state = .active then endActive l r.slot .writeFault s2 else finishDraining r.slot s2
    else clearMarks l gone s1

/-- RECORD_WRITE_FAULT (R82, R83). -/
def execRecordWriteFault (l : LaneId) (s : State) : Host.Outcome State Fault Refusal :=
  .next (finishing (.record l) (takeRecordFault l) s)

/-! ### Report writes -/

/-- The report write in flight of ring `n` completes (R136): the tail and the sequence counter advance, the report
leaves, coalescing counts it, and a FINAL frees its slot. -/
def takeReportCompletion (n : RingId) (s : State) : State :=
  match (s.poster n).inFlight with
  | none => s
  | some src =>
    let s1 := s.modPoster n fun p =>
      { p with inFlight := none, tail := (p.tail + 1) % p.size, sequence := p.sequence + 1 }
    match src with
    | .event => countPosted n { s1 with events := s1.events.tail }
    | .slot _ => countPosted n (dropHead n s1)

/-- REPORT_WRITE_COMPLETION (R136). -/
def execReportWriteCompletion (n : RingId) (s : State) : Host.Outcome State Fault Refusal :=
  .next (finishing (.report n) (takeReportCompletion n) s)

/-- The report write in flight of ring `n`, 1 to 7, faults (R165): the ring becomes FAULTED, every report of its queue
is discarded, the one in flight first, and REPORT_FAULT is raised. -/
def takeReportFault (n : RingId) (s : State) : State :=
  match (s.poster n).inFlight with
  | none => s
  | some _ =>
    let s1 := s.modPoster n fun p => { p with state := .faulted, inFlight := none }
    raiseEvent (.reportFault n (s.poster n).tail) (dropHeads (s.poster n).queue.length n s1)

/-- The report write in flight of report ring 0 faults (R167): the controller enters FATAL with its cause, and every
block keeps its state. -/
def takeRing0Fault (s : State) : State :=
  match (s.poster 0).inFlight with
  | none => s
  | some .event => { s with ctl := .fatal, fatalCause := .eventWrite }
  | some (.slot _) => { s with ctl := .fatal, fatalCause := .finalWrite }

/-- RING0_REPORT_WRITE_FAULT (R167). -/
def execRing0ReportWriteFault (s : State) : Host.Outcome State Fault Refusal :=
  .next (finishing (.report 0) takeRing0Fault s)

/-- REPORT_WRITE_FAULT (R165). The write of report ring 0 has the effect of its own row. -/
def execReportWriteFault (n : RingId) (s : State) : Host.Outcome State Fault Refusal :=
  if n = 0 then .next (finishing (.report 0) takeRing0Fault s)
  else .next (finishing (.report n) (takeReportFault n) s)

/-! ### Acceptance by the link -/

/-- The accepted write is an interrupt message, which is thereby finished (R145, R180). -/
def finishMessage (w : PortWrite) (s : State) : State :=
  match w with
  | .message _ => finishAccess .message s
  | _ => s

/-- WRITE_ACCEPTANCE (R141): the port becomes free, and in RUNNING takes its next grant decision. -/
def execWriteAcceptance (s : State) : Host.Outcome State Fault Refusal :=
  match s.port.busy with
  | none => .next s
  | some w =>
    let s1 := finishMessage w { s with port := { s.port with busy := none } }
    if s1.running then .next (settle s1) else .next (endStopIfDone s1)

end Sys2Proof.Machine
end

