-- ==== Sys2Proof/Machine/Control.lean ====
section
/-! DEFINITION. The ten control requests of job ring 0: ring administration (R149 to R156), lane administration (R158 to
R160), holding and releasing (R90 to R96), cancelling and inspecting (R97 to R102). -/

namespace Sys2Proof.Machine

/-- Steps 1 and 2 of a control request (R147): its contents are reported as 0 when one of them refuses it (R185). -/
def controlEntry (tag : Tag) (zeros : FinalBody) (act : SlotId → State → State) (r : RingId) (j : SlotId)
    (s : State) : State :=
  if r ≠ 0 then answer j .badKind zeros s
  else if tag = Config.noTag then answer j .badField zeros s
  else act j s

/-! ### Report rings -/

/-- Step 3 of OPEN_REPORT_RING (R149): the ring that passes, or the first failing test. -/
def openReportRingCheck (e : OpenReportRingEntry) (s : State) : Except Status RingId :=
  match ioRingOf e.id with
  | none => .error .badField
  | some n =>
    if (s.poster n).state ≠ .closed then .error .ringExists
    else if !aligned32 e.base then .error .badField
    else if !sizeValid e.size.toNat then .error .badField
    else if 16 ≤ e.vector.toNat then .error .badField
    else if e.coalescingCount.toNat < 1 ∨ 64 < e.coalescingCount.toNat then .error .badField
    else .ok n

/-- The poster of a ring that an OPEN_REPORT_RING opens (R126, R150). -/
def openedPoster (e : OpenReportRingEntry) (p : Poster) : Poster :=
  { p with
    state := .open
    base := e.base
    size := e.size.toNat
    head := 0
    tail := 0
    sequence := 0
    vector := e.vector.setWidth 4
    coalescingCount := e.coalescingCount.toNat
    coalescingTime := e.coalescingTime.toNat
    unsignalled := 0
    timer := none
    pendingMessage := false }

/-- OPEN_REPORT_RING after steps 1 and 2 (R149, R150). -/
def openReportRing (e : OpenReportRingEntry) (j : SlotId) (s : State) : State :=
  match openReportRingCheck e s with
  | .error st => answer j st (.openReportRing e.id 0) s
  | .ok n => answer j .ok (.openReportRing e.id e.size) (s.modPoster n (openedPoster e))

/-- OPEN_REPORT_RING (R149). -/
def execOpenReportRing (e : OpenReportRingEntry) (s : State) : Host.Outcome State Fault Refusal :=
  fetched (requestEntry .openReportRing e.tag (.openReportRing e))
    (controlEntry e.tag (.openReportRing 0 0) (openReportRing e)) s

/-- Whether a job ring that is not CLOSED is bound to report ring `n` (R151). -/
def reportRingInUse (n : RingId) (s : State) : Bool :=
  allRings.any fun r => (s.jobRing r).state != .closed && reportRing s r == n

/-- Step 3 of CLOSE_REPORT_RING (R151). -/
def closeReportRingCheck (e : CloseRingEntry) (s : State) : Except Status RingId :=
  match ioRingOf e.id with
  | none => .error .badField
  | some n =>
    if (s.poster n).state = .closed then .error .noRing
    else if reportRingInUse n s then .error .inUse
    else .ok n

/-- The poster of a ring that enters CLOSED (R125, R146, R151). No write of it is in flight: R137 and R151 state so of
every ring that passes the tests of R151, and the record of the poster then says none. -/
def closedPoster (p : Poster) : Poster :=
  { p with state := .closed, inFlight := none, timer := none, unsignalled := 0, pendingMessage := false }

/-- CLOSE_REPORT_RING after steps 1 and 2 (R151). -/
def closeReportRing (e : CloseRingEntry) (j : SlotId) (s : State) : State :=
  match closeReportRingCheck e s with
  | .error st => answer j st (.closeReportRing e.id 0 0) s
  | .ok n =>
    answer j .ok
      (.closeReportRing e.id (BitVec.ofNat 16 (s.poster n).head) (BitVec.ofNat 16 (s.poster n).tail))
      (s.modPoster n closedPoster)

/-- CLOSE_REPORT_RING (R151). -/
def execCloseReportRing (e : CloseRingEntry) (s : State) : Host.Outcome State Fault Refusal :=
  fetched (requestEntry .closeReportRing e.tag (.closeReportRing e))
    (controlEntry e.tag (.closeReportRing 0 0 0) (closeReportRing e)) s

/-! ### Job rings -/

/-- Step 3 of OPEN_JOB_RING (R152): the job ring and the report ring that pass, or the first failing test. -/
def openJobRingCheck (e : OpenJobRingEntry) (s : State) : Except Status (RingId × RingId) :=
  match ioRingOf e.id with
  | none => .error .badField
  | some r =>
    if (s.jobRing r).state ≠ .closed then .error .ringExists
    else if !aligned64 e.base then .error .badField
    else if !sizeValid e.size.toNat then .error .badField
    else
      match ioRingOf e.reportRing with
      | none => .error .badField
      | some n =>
        if e.weight.toNat < 1 ∨ 16 < e.weight.toNat then .error .badField
        else if (s.poster n).state ≠ .open then .error .noRing
        else .ok (r, n)

/-- The record of a ring that an OPEN_JOB_RING opens (R153). -/
def openedJobRing (e : OpenJobRingEntry) (n : RingId) (q : JobRing) : JobRing :=
  { q with
    state := .open
    base := e.base
    size := e.size.toNat
    head := 0
    tail := 0
    bound := n
    weight := e.weight.toNat
    credit := 0 }

/-- OPEN_JOB_RING after steps 1 and 2 (R152, R153). -/
def openJobRing (e : OpenJobRingEntry) (j : SlotId) (s : State) : State :=
  match openJobRingCheck e s with
  | .error st => answer j st (.openJobRing e.id 0 0) s
  | .ok (r, n) => answer j .ok (.openJobRing e.id e.reportRing e.size) (s.modJobRing r (openedJobRing e n))

/-- OPEN_JOB_RING (R152). -/
def execOpenJobRing (e : OpenJobRingEntry) (s : State) : Host.Outcome State Fault Refusal :=
  fetched (requestEntry .openJobRing e.tag (.openJobRing e))
    (controlEntry e.tag (.openJobRing 0 0 0) (openJobRing e)) s

/-- Step 3 of CLOSE_JOB_RING (R154). -/
def closeJobRingCheck (e : CloseRingEntry) (s : State) : Except Status RingId :=
  match ioRingOf e.id with
  | none => .error .badField
  | some r =>
    if (s.jobRing r).state = .open ∨ (s.jobRing r).state = .faulted then .ok r else .error .noRing

/-- A PENDING job of ring `r` ends with RING_CLOSED and leaves its queue; no lane acts yet (R154 step 2). -/
def closePending (r : RingId) (j : SlotId) (s : State) : State :=
  match (s.slot j).stagingLane with
  | none => s
  | some l =>
    if (s.slot j).state = .pending ∧ (s.slot j).ring = r then
      finishDraining j (detachPending l j .ringClosed s)
    else s

/-- An ACTIVE job of ring `r` ends with RING_CLOSED and leaves its lanes; no lane acts yet (R154 step 3). -/
def closeActive (r : RingId) (j : SlotId) (s : State) : State :=
  match (s.slot j).stagingLane with
  | none => s
  | some l =>
    if (s.slot j).state = .active ∧ (s.slot j).ring = r then
      finishDraining j (detachActive l j .ringClosed s)
    else s

/-- Every lane that ring `r` owns is released (R155). -/
def releaseClaims (r : RingId) (s : State) : State :=
  allLanes.foldl
    (fun s l => if (s.lane l).owner = some r then s.modLane l fun x => { x with owner := none } else s) s

/-- Each lane whose state differs from what it was in `before` acts once on its new state (R155). -/
def changedLanesAct (before s : State) : State :=
  (allLanes.filter fun l => before.lane l != s.lane l).foldl (fun s l => laneAct l s) s

/-- The jobs a close ends: those PENDING or ACTIVE (R156, `ended`). -/
def liveJobs (r : RingId) (s : State) : Nat :=
  allSlots.countP fun j =>
    (s.slot j).ring == r && ((s.slot j).state == .pending || (s.slot j).state == .active)

/-- The slots a close waits for: those of the ring in PENDING, ACTIVE, DRAINING or POSTING (R156). -/
def owedSlots (r : RingId) (s : State) : Nat :=
  allSlots.countP fun j =>
    (s.slot j).ring == r &&
      ((s.slot j).state == .pending || (s.slot j).state == .active || (s.slot j).state == .draining
        || (s.slot j).state == .posting)

/-- CLOSE_JOB_RING's steps 1 to 5 on ring `r` (R154, R155). -/
def closeRingWork (r : RingId) (s : State) : State :=
  let s1 := s.modJobRing r fun q => { q with state := .closing }
  let s2 := allSlots.foldl (fun s j => closePending r j s) s1
  let s3 := allSlots.foldl (fun s j => closeActive r j s) s2
  changedLanesAct s1 (releaseClaims r s3)

/-- CLOSE_JOB_RING after steps 1 and 2 of R147 (R154 to R156): it completes at once when no slot of the ring is left,
else its slot waits with the remaining count. -/
def closeJobRing (e : CloseRingEntry) (j : SlotId) (s : State) : State :=
  match closeJobRingCheck e s with
  | .error st => answer j st (.closeJobRing e.id 0 0 0) s
  | .ok r =>
    let s1 := closeRingWork r s
    let remaining := owedSlots r s1
    if remaining = 0 then completeClose r j (liveJobs r s) 0 s1
    else
      (s1.modSlot j fun x =>
        { x with state := .waiting, wait := .close r remaining (liveJobs r s) remaining }).modJobRing r
          fun q => { q with closer := some j }

/-- CLOSE_JOB_RING (R154). -/
def execCloseJobRing (e : CloseRingEntry) (s : State) : Host.Outcome State Fault Refusal :=
  fetched (requestEntry .closeJobRing e.tag (.closeJobRing e))
    (controlEntry e.tag (.closeJobRing 0 0 0 0) (closeJobRing e)) s

/-! ### Lane administration -/

/-- The lane after a SET_LANE: the new configuration, and the glitch filter set from the present conditioned level with
no candidate and no arrival (R3, R158). -/
def configuredLane (filter : Byte) (invert raw : Bool) (x : Lane) : Lane :=
  { x with
    filterWidth := filter, invert := invert, filtered := raw != invert, candidate := none, formed := [] }

/-- Step 3 of SET_LANE (R158). -/
def setLaneCheck (e : SetLaneEntry) (s : State) : Except Status LaneId :=
  match laneOf e.lane with
  | none => .error .badLane
  | some l =>
    if 1 < e.invert.toNat then .error .badField
    else if (s.lane l).active.isSome || (s.lane l).lentTo.isSome then .error .laneBusy
    else .ok l

/-- SET_LANE after steps 1 and 2 (R158). -/
def setLane (e : SetLaneEntry) (j : SlotId) (s : State) : State :=
  match setLaneCheck e s with
  | .error st => answer j st (.setLane e.lane e.filter e.invert) s
  | .ok l =>
    answer j .ok (.setLane e.lane e.filter e.invert)
      (s.modLane l (configuredLane e.filter (e.invert == 1) (s.line.getLsbD l.val)))

/-- SET_LANE (R158). -/
def execSetLane (e : SetLaneEntry) (s : State) : Host.Outcome State Fault Refusal :=
  fetched (requestEntry .setLane e.tag (.setLane e)) (controlEntry e.tag (.setLane 0 0 0) (setLane e)) s

/-- Whether a job of a ring other than `k` is active on lane `x` or queued there, or lane `x` is lent to one or its
place holds the request of one (R159). A loan names the ring of its SPAN, also when the SPAN is gone and the grant not
yet returned. -/
def foreignWork (s : State) (k : RingId) (x : Lane) : Bool :=
  x.queue.any (fun j => (s.slot j).ring != k) || x.active.any (fun j => (s.slot j).ring != k)
    || x.lentTo.any (fun n => n.ring != k) || x.place.any (fun n => n.ring != k)

/-- Step 3 of CLAIM_LANE (R159): the lane, and the owner ring it takes. A claim for the present owner passes and changes
nothing (log entry 9). -/
def claimLaneCheck (e : ClaimLaneEntry) (s : State) : Except Status (LaneId × Option RingId) :=
  match laneOf e.lane with
  | none => .error .badLane
  | some l =>
    match ringOf e.ring with
    | none => .error .badField
    | some k =>
      if k = 0 then .ok (l, none)
      else if ¬((s.jobRing k).state = .open ∨ (s.jobRing k).state = .faulted) then .error .noRing
      else if (s.lane l).owner = some k then .ok (l, some k)
      else if (s.lane l).owner ≠ none then .error .inUse
      else if foreignWork s k (s.lane l) then .error .inUse
      else .ok (l, some k)

/-- CLAIM_LANE after steps 1 and 2 (R159, R160). -/
def claimLane (e : ClaimLaneEntry) (j : SlotId) (s : State) : State :=
  match claimLaneCheck e s with
  | .error st => answer j st (.claimLane e.lane 0 0) s
  | .ok (l, k) =>
    answer j .ok (.claimLane e.lane (ownerCode (s.lane l).owner) (ownerCode k))
      (s.modLane l fun x => { x with owner := k })

/-- CLAIM_LANE (R159). -/
def execClaimLane (e : ClaimLaneEntry) (s : State) : Host.Outcome State Fault Refusal :=
  fetched (requestEntry .claimLane e.tag (.claimLane e))
    (controlEntry e.tag (.claimLane 0 0 0) (claimLane e)) s

/-! ### Holding -/

/-- Whether the head of lane `l` is the SPAN this loan names, in phase ASKED with partner `p` (R62, R91). -/
def headAsks (s : State) (l p : LaneId) (loan : Loan) : Bool :=
  (s.lane l).queue.head? == some loan.slot && (s.lane l).loanPhase == .asked && isSpan (jobOf s loan.slot)
    && partnerOf (jobOf s loan.slot).fields == p

/-- The context of lane `l` is held (R43, R90). -/
def holdLaneContext (l : LaneId) (s : State) : State :=
  s.modLane l fun x => { x with ctx := x.ctx.map holdContext }

/-- A hold notice from lane `p`, lent under `loan`, is taken at the primary (R91). -/
def holdNotice (p : LaneId) (loan : Loan) (s : State) : State :=
  let l := loan.primary
  if activeSpanOn s l p then
    s.modLane l fun x => { x with ctx := x.ctx.map fun c => { holdContext c with partnerHeld := true } }
  else if headAsks s l p loan then s.modLane l fun x => { x with partnerMark := true }
  else s

/-- The job ring and the tag of the job in slot `j`. -/
def jobName (s : State) (j : SlotId) : RingId × Tag := ((s.slot j).ring, (s.slot j).tag)

/-- The job a hold of lane `l` finds, by its ring and tag: the one active on the lane, or the SPAN the lane is lent to,
also when that SPAN is gone and the grant not yet returned; none when the lane is idle (R61, R93; log entry 15). -/
def jobFound (s : State) (l : LaneId) : Option (RingId × Tag) :=
  match (s.lane l).active with
  | some j => some (jobName s j)
  | none => (s.lane l).lentTo.map fun loan => (loan.ring, loan.tag)

/-- Whether a hold of lane `l` abandons a measurement or a window of the job it finds (R93). -/
def abandonsAt (s : State) (l : LaneId) : Bool :=
  match (s.lane l).active with
  | some _ => (s.lane l).ctx.any holdAbandons
  | none =>
    match (s.lane l).lentTo with
    | none => false
    | some loan => activeSpanOn s loan.primary l && (s.lane loan.primary).ctx.any holdAbandons

/-- The newest record that stands on a lane: the tail of the staging FIFO, else the record in the write slot (R92). -/
def newestRecord (x : Lane) : Option ResultRecord :=
  match x.fifo.getLast? with
  | some r => some r
  | none => x.writeSlot

/-- The drain mark of the HOLD_LANE in slot `j` is set on lane `l`, when a record stands there (R92). -/
def setMark (j : SlotId) (l : LaneId) (s : State) : State :=
  match newestRecord (s.lane l) with
  | none => s
  | some r =>
    s.modLane l fun x =>
      { x with drainMarks := x.drainMarks ++ [{ holder := j, recordSlot := r.slot, recordIndex := r.index }] }

/-- The staging lanes a hold of lane `l` waits for: the lane, and the primary it is lent to (R92). -/
def drainLanes (s : State) (l : LaneId) : List LaneId :=
  match (s.lane l).lentTo with
  | none => [l]
  | some loan => [l, loan.primary]

/-- The number of drain marks a hold of lane `l` sets (R92). -/
def marksSet (s : State) (l : LaneId) : Nat :=
  (drainLanes s l).countP fun m => (newestRecord (s.lane m)).isSome

/-- The effect of an accepted HOLD_LANE on the lanes (R90, R91, R92). -/
def holdLanes (j : SlotId) (l : LaneId) (s : State) : State :=
  let s1 := holdLaneContext l (s.modLane l fun x => { x with hold := true })
  let s2 := withdrawHead l s1
  let s3 :=
    match (s.lane l).lentTo with
    | none => s2
    | some loan => holdNotice l loan s2
  (drainLanes s l).foldl (fun s m => setMark j m s) s3

/-- The job ring byte of a job found or resumed, 0 for none (R185). -/
def foundRing (job : Option (RingId × Tag)) : Byte :=
  match job with
  | none => 0
  | some (r, _) => BitVec.ofNat 8 r.val

/-- The tag of a job found or resumed, FFFFh for none (R185). -/
def foundTag (job : Option (RingId × Tag)) : Tag :=
  match job with
  | none => Config.noTag
  | some (_, tag) => tag

/-- HOLD_LANE after steps 1 and 2 (R90 to R93): it completes at once when it sets no drain mark, else its slot waits. -/
def holdLane (e : LaneEntry) (j : SlotId) (s : State) : State :=
  match laneOf e.lane with
  | none => answer j .badLane (.holdLane e.lane 0 Config.noTag false) s
  | some l =>
    if (s.lane l).hold then answer j .alreadyHeld (.holdLane e.lane 0 Config.noTag false) s
    else
      let ring := foundRing (jobFound s l)
      let tag := foundTag (jobFound s l)
      let abandoned := abandonsAt s l
      let s1 := holdLanes j l s
      if marksSet s l = 0 then answer j .ok (.holdLane e.lane ring tag abandoned) s1
      else
        s1.modSlot j fun x =>
          { x with state := .waiting, wait := .hold (marksSet s l) e.lane ring tag abandoned }

/-- HOLD_LANE (R90). -/
def execHoldLane (e : LaneEntry) (s : State) : Host.Outcome State Fault Refusal :=
  fetched (requestEntry .holdLane e.tag (.holdLane e))
    (controlEntry e.tag (.holdLane 0 0 Config.noTag false) (holdLane e)) s

/-! ### Releasing -/

/-- The job active on lane `l`, in phase HELD, resumes now (R43, R96). -/
def resumeLane (l : LaneId) (s : State) : State :=
  match (s.lane l).active with
  | none => s
  | some j =>
    s.modLane l fun x =>
      { x with
        ctx := x.ctx.map (resumeContext (jobOf s j) (settleInterval s l (jobOf s j)) s.timebase) }

/-- Whether the active job of lane `l` can resume: HELD, the lane's flag clear, and the partner-held mark of a SPAN
clear (R95). -/
def canResume (s : State) (l : LaneId) : Bool :=
  let x := s.lane l
  !x.hold && x.active.isSome && x.ctx.any fun c => c.phase == .held && !c.partnerHeld

/-- A release notice from lane `p`, lent under `loan`, is taken at the primary: the partner-held mark is cleared
(R95 step 3). -/
def releaseNotice (p : LaneId) (loan : Loan) (s : State) : State :=
  let l := loan.primary
  if activeSpanOn s l p then
    s.modLane l fun x => { x with ctx := x.ctx.map fun c => { c with partnerHeld := false } }
  else if headAsks s l p loan then s.modLane l fun x => { x with partnerMark := false }
  else s

/-- The lane whose active job a release of lane `l` may resume: the lane itself, or the primary of the active SPAN it is
lent to (R95 steps 2 and 3). -/
def resumingLane (s : State) (l : LaneId) : Option LaneId :=
  if (s.lane l).active.isSome then some l
  else
    match (s.lane l).lentTo with
    | none => none
    | some loan => if activeSpanOn s loan.primary l then some loan.primary else none

/-- The flag of lane `l` is cleared, and the primary of a lent lane takes the release notice (R95 steps 1 and 3). -/
def clearHold (l : LaneId) (s : State) : State :=
  let s1 := s.modLane l fun x => { x with hold := false }
  match (s.lane l).lentTo with
  | none => s1
  | some loan => releaseNotice l loan s1

/-- RELEASE_LANE after steps 1 and 2 (R95). -/
def releaseLane (e : LaneEntry) (j : SlotId) (s : State) : State :=
  match laneOf e.lane with
  | none => answer j .badLane (.releaseLane e.lane 0 Config.noTag) s
  | some l =>
    if (s.lane l).hold then
      let s1 := clearHold l s
      let lane := (resumingLane s1 l).filter (canResume s1)
      let s2 :=
        match lane with
        | none => s1
        | some m => resumeLane m s1
      let job := (lane.bind fun m => (s1.lane m).active).map (jobName s1)
      answer j .ok (.releaseLane e.lane (foundRing job) (foundTag job)) (laneAct l s2)
    else answer j .notHeld (.releaseLane e.lane 0 Config.noTag) s

/-- RELEASE_LANE (R95). -/
def execReleaseLane (e : LaneEntry) (s : State) : Host.Outcome State Fault Refusal :=
  fetched (requestEntry .releaseLane e.tag (.releaseLane e))
    (controlEntry e.tag (.releaseLane 0 0 Config.noTag) (releaseLane e)) s

/-! ### Cancelling and inspecting -/

/-- The CANCEL_JOB in slot `j` waits for its target `t`: it completes when the target enters POSTING, which may be in
this same event (R98, R99, R100). -/
def awaitTarget (e : JobNameEntry) (j t : SlotId) (s : State) : State :=
  (s.modSlot j fun x => { x with state := .waiting, wait := .cancel e.ring e.target (s.slot t).state }).modSlot t
    fun x => { x with cancelWaiter := some j }

/-- CANCEL_JOB after steps 1 and 2 (R97 to R99). `found` carries the target's state at the lookup, in a refusal too
(R97, R101; log entry 8). -/
def cancelJob (e : JobNameEntry) (j : SlotId) (s : State) : State :=
  match lookupByte e.ring e.target s with
  | .absent => answer j .notFound (.cancelJob e.ring 0 e.target) s
  | .ended => answer j .tooLate (.cancelJob e.ring (slotStateCode .posting) e.target) s
  | .live t =>
    let l := (s.slot t).stagingLane.getD 0
    match (s.slot t).state with
    | .pending => endPending l t .cancelled (awaitTarget e j t s)
    | .active => endActive l t .cancelled (awaitTarget e j t s)
    | found => answer j .tooLate (.cancelJob e.ring (slotStateCode found) e.target) s

/-- CANCEL_JOB (R97). -/
def execCancelJob (e : JobNameEntry) (s : State) : Host.Outcome State Fault Refusal :=
  fetched (requestEntry .cancelJob e.tag (.cancelJob e))
    (controlEntry e.tag (.cancelJob 0 0 0) (cancelJob e)) s

/-- PEEK_JOB after steps 1 and 2 (R102). -/
def peekJob (e : JobNameEntry) (j : SlotId) (s : State) : State :=
  match lookupByte e.ring e.target s with
  | .live t =>
    let x := s.slot t
    answer j .ok
      (.peekJob e.ring (slotStateCode x.state) e.target (BitVec.ofNat 8 x.queued.length) x.produced x.written x.lost) s
  | _ => answer j .notFound (.peekJob e.ring 0 e.target 0 0 0 0) s

/-- PEEK_JOB (R102). -/
def execPeekJob (e : JobNameEntry) (s : State) : Host.Outcome State Fault Refusal :=
  fetched (requestEntry .peekJob e.tag (.peekJob e))
    (controlEntry e.tag (.peekJob 0 0 0 0 0 0 0) (peekJob e)) s

end Sys2Proof.Machine
end

