-- ==== Sys2Proof/Machine/Window.lean ====
section
/-! DEFINITION. The register window and the controller (chapter 10): reads (R172, R174 to R176, R186), JOB_TAIL and
RPT_HEAD writes (R107, R108, R128, R129), CTRL with start-up and stop (R173, R177 to R180), the control ring registers
(R175), TIME_LO (R14), power-on and PCIe reset (R182). -/

namespace Sys2Proof.Machine

/-! ### Index writes -/

/-- A write to JOB_TAIL[r] (R107, R108). -/
def writeJobTail (r : RingId) (v : BitVec 32) (s : State) : State :=
  if s.running then
    if (s.jobRing r).state = .open ∧ indexField v < (s.jobRing r).size then
      settle (s.modJobRing r fun q => { q with tail := indexField v })
    else settle (raiseEvent (.indexError false r v) s)
  else s

/-- JOB_TAIL_WRITE (R107, R108). -/
def execJobTailWrite (r : RingId) (v : BitVec 32) (s : State) : Host.Outcome State Fault Refusal :=
  .next (writeJobTail r v s)

/-- A write to RPT_HEAD[n] (R128, R129). -/
def writeRptHead (n : RingId) (v : BitVec 32) (s : State) : State :=
  if s.running then
    if (s.poster n).state = .open ∧ (s.poster n).headAccepted (indexField v) then
      settle (s.modPoster n fun p => { p with head := indexField v })
    else settle (raiseEvent (.indexError true n v) s)
  else s

/-- RPT_HEAD_WRITE (R128, R129). -/
def execRptHeadWrite (n : RingId) (v : BitVec 32) (s : State) : Host.Outcome State Fault Refusal :=
  .next (writeRptHead n v s)

/-! ### Start-up and stop -/

/-- Whether the control ring configuration is valid (R177). -/
def configValid (s : State) : Bool :=
  sizeValid s.cringJobSize.toNat && sizeValid s.cringRptSize.toNat && aligned64 s.cringJobBase
    && aligned32 s.cringRptBase

/-- Job ring 0 as it opens at controller start (R106). -/
def startedJobRing (s : State) : JobRing :=
  { s.jobRing 0 with
    state := .open, base := s.cringJobBase, size := s.cringJobSize.toNat, head := 0, tail := 0, bound := 0 }

/-- Report ring 0 as it opens at controller start (R126). -/
def startedPoster (s : State) : Poster :=
  { s.poster 0 with
    state := .open
    base := s.cringRptBase
    size := s.cringRptSize.toNat
    head := 0
    tail := 0
    sequence := 0
    vector := 0
    coalescingCount := 1
    coalescingTime := 0
    unsignalled := 0
    timer := none
    pendingMessage := false }

/-- Every rotation credit becomes 0 (R106, R177). -/
def clearCredits (s : State) : State :=
  allRings.foldl (fun s r => s.modJobRing r fun q => { q with credit := 0 }) s

/-- The start is taken (R177). -/
def takeStartUp (s : State) : State :=
  let s1 := clearCredits ((s.setJobRing 0 (startedJobRing s)).setPoster 0 (startedPoster s))
  { s1 with ctl := .running, configError := false, fatalCause := .none, pointer := 7 }

/-- The first event of a stop: every block drops its work (R69, R179). A lane keeps its configuration, its owner and its
filter until the stop ends (R180). -/
def droppedLane (x : Lane) : Lane :=
  { filterWidth := x.filterWidth
    invert := x.invert
    filtered := x.filtered
    candidate := x.candidate
    formed := x.formed
    owner := x.owner }

/-- A stop begins, and ends in the same event when nothing is outstanding (R179, R180). DESIGN CHOICE (log entry 25;
unsafe): every slot is FREE with its reset values, and the rotation pointer 7, from this first event on; the spec gives
both values at the end of the stop (R44, R69, R105) and says of neither that it is taken here. -/
def beginStop (s : State) : State :=
  endStopIfDone
    { s with
      ctl := .stopping
      lanes := Vector.ofFn fun l : Fin 16 => droppedLane (s.lane l)
      loanMsgs := []
      slots := State.reset.slots
      tagMaps := State.reset.tagMaps
      jobRings := State.reset.jobRings
      pointer := 7
      fetch := none
      posters := State.reset.posters
      events := []
      eventsLost := 0
      messages := [] }

/-- CTRL's enable as a read returns it (R173). -/
def enableReads (s : State) : Bool := s.ctl == .running || s.ctl == .fatal

/-- The interrupt enable field takes the written value; a change from clear to set in RUNNING sends the pending
messages (R144, R173). -/
def writeInterruptEnable (interruptEnable : Bool) (s : State) : State :=
  let s1 := { s with interruptEnable := interruptEnable }
  if s1.running && interruptEnable && !s.interruptEnable then sendPendingMessages s1 else s1

/-- A write to CTRL, with both of its fields, as one event (R173). -/
def writeCtrl (enable interruptEnable : Bool) (s : State) : State :=
  match s.ctl with
  | .stopping => s
  | .off =>
    if enable then
      if configValid s then settle (writeInterruptEnable interruptEnable (takeStartUp s))
      else { s with interruptEnable := interruptEnable, configError := true }
    else { s with interruptEnable := interruptEnable }
  | .running =>
    if enable then settle (writeInterruptEnable interruptEnable s)
    else beginStop { s with interruptEnable := interruptEnable }
  | .fatal =>
    if enable then { s with interruptEnable := interruptEnable }
    else beginStop { s with interruptEnable := interruptEnable }

/-- START_UP: CTRL written with enable 1 (R173, R177, R178). -/
def execStartUp (interruptEnable : Bool) (s : State) : Host.Outcome State Fault Refusal :=
  .next (writeCtrl true interruptEnable s)

/-- STOP: CTRL written with enable 0 (R173, R179). -/
def execStop (interruptEnable : Bool) (s : State) : Host.Outcome State Fault Refusal :=
  .next (writeCtrl false interruptEnable s)

/-- INTERRUPT_ENABLE_SET: CTRL written with interrupt enable 1 (R144, R173). -/
def execInterruptEnableSet (enable : Bool) (s : State) : Host.Outcome State Fault Refusal :=
  .next (writeCtrl enable true s)

/-- INTERRUPT_ENABLE_CLEAR: CTRL written with interrupt enable 0 (R173). -/
def execInterruptEnableClear (enable : Bool) (s : State) : Host.Outcome State Fault Refusal :=
  .next (writeCtrl enable false s)

/-- STOP_END (R180): in STOPPING, the last outstanding access is finished, the count reaches 0 and the stop ends. With
more than one access outstanding the count does not reach 0, and nothing is taken. -/
def execStopEnd (s : State) : Host.Outcome State Fault Refusal :=
  if s.ctl = .stopping ∧ s.outstandingCount ≤ 1 then .next (endStop { s with accesses := [] }) else .next s

/-! ### The other registers -/

/-- A word of a 64-bit register is replaced (R175, R186). -/
def lowWord (v : BitVec 32) (x : Addr) : Addr := x.extractLsb' 32 32 ++ v

def highWord (v : BitVec 32) (x : Addr) : Addr := v ++ x.extractLsb' 0 32

/-- The ring of an offset of JOB_TAIL or RPT_HEAD, `base` being the offset of index 0 (section 11.4). -/
def registerIndex (base offset : Nat) : Option RingId :=
  if base ≤ offset ∧ offset < base + 32 then some (Fin.ofNat 8 ((offset - base) / 4)) else none

/-- A word written to a control ring register in OFF; every other register here ignores a write (R175, R186). -/
def writeControlRing (offset : Nat) (v : BitVec 32) (s : State) : State :=
  if s.ctl = .off then
    if offset = 0x010 then { s with cringJobBase := lowWord v s.cringJobBase }
    else if offset = 0x014 then { s with cringJobBase := highWord v s.cringJobBase }
    else if offset = 0x018 then { s with cringRptBase := lowWord v s.cringRptBase }
    else if offset = 0x01C then { s with cringRptBase := highWord v s.cringRptBase }
    else if offset = 0x020 then
      { s with cringJobSize := v.extractLsb' 0 13, cringRptSize := v.extractLsb' 16 13 }
    else s
  else s

/-- A 32-bit write to an aligned offset of the window, passed to the block that owns the register (R172). -/
def writeRegister (offset : Nat) (v : BitVec 32) (s : State) : State :=
  if offset = 0x000 then writeCtrl (v.getLsbD 0) (v.getLsbD 1) s
  else
    match registerIndex 0x100 offset with
    | some r => writeJobTail r v s
    | none =>
      match registerIndex 0x140 offset with
      | some n => writeRptHead n v s
      | none => writeControlRing offset v s

/-- Whether an access is taken: 32 bits wide, aligned to 4 bytes (R172). -/
def accessTaken (offset : BitVec 12) (w : AccessWidth) : Bool := w == .word && offset.toNat % 4 == 0

/-- REGISTER_WRITE (R172, R175, R186). -/
def execRegisterWrite (offset : BitVec 12) (w : AccessWidth) (v : BitVec 32) (s : State) :
    Host.Outcome State Fault Refusal :=
  if accessTaken offset w then .next (writeRegister offset.toNat v s) else .next s

/-- STAT (R174, section 11.4). -/
def statWord (s : State) : BitVec 32 :=
  ctlCode s.ctl ||| (if s.configError then 4 else 0) ||| (fatalCode s.fatalCause <<< 4)

/-- CTRL (R173, section 11.4). -/
def ctrlWord (s : State) : BitVec 32 :=
  (if enableReads s then 1 else 0) ||| (if s.interruptEnable then 2 else 0)

/-- Whether JOB_TAIL and RPT_HEAD read the rings' indices: in RUNNING and FATAL; else they read 0 (R176). -/
def indicesRead (s : State) : Bool := s.ctl == .running || s.ctl == .fatal

/-- What a 32-bit read of an aligned offset returns (R172, R176, R186). An offset with no register reads 0. -/
def readWord (offset : Nat) (s : State) : BitVec 32 :=
  if offset = 0x000 then ctrlWord s
  else if offset = 0x004 then statWord s
  else if offset = 0x010 then s.cringJobBase.extractLsb' 0 32
  else if offset = 0x014 then s.cringJobBase.extractLsb' 32 32
  else if offset = 0x018 then s.cringRptBase.extractLsb' 0 32
  else if offset = 0x01C then s.cringRptBase.extractLsb' 32 32
  else if offset = 0x020 then s.cringJobSize.setWidth 32 ||| (s.cringRptSize.setWidth 32 <<< 16)
  else if offset = 0x030 then s.timebase.extractLsb' 0 32
  else if offset = 0x034 then s.timeHi.setWidth 32
  else
    match registerIndex 0x100 offset with
    | some r => if indicesRead s then BitVec.ofNat 32 (s.jobRing r).tail else 0
    | none =>
      match registerIndex 0x140 offset with
      | some n => if indicesRead s then BitVec.ofNat 32 (s.poster n).head else 0
      | none => 0

/-- What a read of the window returns to the host; a read of another width or alignment returns FFFFFFFFh (R172). -/
def readWindow (offset : BitVec 12) (w : AccessWidth) (s : State) : BitVec 32 :=
  if accessTaken offset w then readWord offset.toNat s else BitVec.allOnes 32

/-- TIME_LO_READ (R14): the host is given bits 0 to 31 of the count, and the latch takes bits 32 to 47. -/
def execTimeLoRead (s : State) : Host.Outcome State Fault Refusal :=
  .next { s with readData := s.timebase.extractLsb' 0 32, timeHi := s.timebase.extractLsb' 32 16 }

/-! ### Power-on and PCIe reset -/

/-- POWER_ON (R3, R182): every block takes its value after power-on, and the first sample sets each filtered level. The
commands that wait are outside the part. -/
def execPowerOn (levels : BitVec 16) (s : State) : Host.Outcome State Fault Refusal :=
  .next
    { State.reset with
      line := levels
      lanes := Vector.ofFn fun l : Fin 16 => { filtered := levels.getLsbD l.val }
      pending := s.pending }

/-- PCIE_RESET (R182): a stop begun from the present state; in OFF nothing changes, and in STOPPING the stop goes on. -/
def execPcieReset (s : State) : Host.Outcome State Fault Refusal :=
  if s.ctl = .running ∨ s.ctl = .fatal then .next (beginStop s) else .next s

end Sys2Proof.Machine
end

