-- ==== Sys2Proof/Machine/Dispatch.lean ====
section
/-! DEFINITION. The meaning of every command: one arm per constructor of `Instr`. -/

namespace Sys2Proof.Machine

def exec (i : Instr) (s : State) : Host.Outcome State Fault Refusal :=
  match i with
  | .edgeArrival lane polarity stamp => Sys2Proof.Machine.execEdgeArrival lane polarity stamp s
  | .alignedArrivalDue lane => Sys2Proof.Machine.execAlignedArrivalDue lane s
  | .windowEndExpiry lane => Sys2Proof.Machine.execWindowEndExpiry lane s
  | .overflowBoundExpiry lane => Sys2Proof.Machine.execOverflowBoundExpiry lane s
  | .startLimitExpiry slot => Sys2Proof.Machine.execStartLimitExpiry slot s
  | .coalescingTimerExpiry ring => Sys2Proof.Machine.execCoalescingTimerExpiry ring s
  | .width e => Sys2Proof.Machine.execWidth e s
  | .cycles e => Sys2Proof.Machine.execCycles e s
  | .span e => Sys2Proof.Machine.execSpan e s
  | .tally e => Sys2Proof.Machine.execTally e s
  | .quiet e => Sys2Proof.Machine.execQuiet e s
  | .addBuffer e => Sys2Proof.Machine.execAddBuffer e s
  | .openReportRing e => Sys2Proof.Machine.execOpenReportRing e s
  | .closeReportRing e => Sys2Proof.Machine.execCloseReportRing e s
  | .openJobRing e => Sys2Proof.Machine.execOpenJobRing e s
  | .closeJobRing e => Sys2Proof.Machine.execCloseJobRing e s
  | .setLane e => Sys2Proof.Machine.execSetLane e s
  | .claimLane e => Sys2Proof.Machine.execClaimLane e s
  | .holdLane e => Sys2Proof.Machine.execHoldLane e s
  | .releaseLane e => Sys2Proof.Machine.execReleaseLane e s
  | .cancelJob e => Sys2Proof.Machine.execCancelJob e s
  | .peekJob e => Sys2Proof.Machine.execPeekJob e s
  | .undefinedKindEntry code tag => Sys2Proof.Machine.execUndefinedKindEntry code tag s
  | .fetchReadFault => Sys2Proof.Machine.execFetchReadFault s
  | .recordWriteCompletion lane => Sys2Proof.Machine.execRecordWriteCompletion lane s
  | .recordWriteFault lane => Sys2Proof.Machine.execRecordWriteFault lane s
  | .loanRequest src dst => Sys2Proof.Machine.execLoanRequest src dst s
  | .grant src dst => Sys2Proof.Machine.execGrant src dst s
  | .defer src dst => Sys2Proof.Machine.execDefer src dst s
  | .withdraw src dst => Sys2Proof.Machine.execWithdraw src dst s
  | .loanReturn src dst => Sys2Proof.Machine.execLoanReturn src dst s
  | .placeOpenNotice src dst => Sys2Proof.Machine.execPlaceOpenNotice src dst s
  | .reportWriteCompletion ring => Sys2Proof.Machine.execReportWriteCompletion ring s
  | .reportWriteFault ring => Sys2Proof.Machine.execReportWriteFault ring s
  | .ring0ReportWriteFault => Sys2Proof.Machine.execRing0ReportWriteFault s
  | .writeAcceptance => Sys2Proof.Machine.execWriteAcceptance s
  | .jobTailWrite ring value => Sys2Proof.Machine.execJobTailWrite ring value s
  | .rptHeadWrite ring value => Sys2Proof.Machine.execRptHeadWrite ring value s
  | .timeLoRead => Sys2Proof.Machine.execTimeLoRead s
  | .startUp interruptEnable => Sys2Proof.Machine.execStartUp interruptEnable s
  | .stop interruptEnable => Sys2Proof.Machine.execStop interruptEnable s
  | .stopEnd => Sys2Proof.Machine.execStopEnd s
  | .interruptEnableSet enable => Sys2Proof.Machine.execInterruptEnableSet enable s
  | .interruptEnableClear enable => Sys2Proof.Machine.execInterruptEnableClear enable s
  | .registerWrite offset accessWidth value => Sys2Proof.Machine.execRegisterWrite offset accessWidth value s
  | .powerOn levels => Sys2Proof.Machine.execPowerOn levels s
  | .pcieReset => Sys2Proof.Machine.execPcieReset s
  | .baseTick levels => Sys2Proof.Machine.execBaseTick levels s

end Sys2Proof.Machine
end

