-- ==== Sys2Proof/Machine/Step.lean ====
section
/-! DEFINITION. The step: the command at the front of the queue is taken. -/

namespace Sys2Proof.Machine

/-- One step. The command at the front of the queue leaves it and is carried out whole (00_scope.md, Events and order).
On an empty queue the part idles: nothing happens in it but at an event, and the tick of its clock is a command of its
own, BASE_TICK (log entry 16). -/
def step (s : State) : Host.Outcome State Fault Refusal :=
  match s.pending with
  | [] => .next s
  | c :: rest => exec c { s with pending := rest }

/-- `s` with the command a word of the opcode table spells put at the front of its queue; the table gives no row bits,
so no word spells one, and `s` stays as it is (log entry 19). -/
def State.withFetchWord (s : State) (nbits w : Nat) : State :=
  match decodeTableWord nbits w with
  | none => s
  | some c => { s with pending := c :: s.pending }

end Sys2Proof.Machine
end

