-- ==== Sys2Proof/Safety.lean ====
section
/-! DEFINITION. What counts as a sound state of the part: the bounds and exclusions that the manual states of its lists,
indices, lanes, tag maps and controller states, as predicates that every step keeps (each from the rules it names). -/

namespace Sys2Proof.Machine

/-- The lists of the part stay within their depths: a lane queue of 8, a staging FIFO of 4, 4 queued buffers and 3
waiting PROGRESS reports a slot, an event list of 8 (R50, R70, R75, R131, R133, R138). -/
structure State.Bounded (s : State) : Prop where
  queues : ∀ l : LaneId, (s.lane l).queue.length ≤ Config.laneQueueDepth
  fifos : ∀ l : LaneId, (s.lane l).fifo.length ≤ Config.stagingDepth
  buffers : ∀ j : SlotId, (s.slot j).queued.length ≤ Config.queuedBufferDepth
  progress : ∀ j : SlotId, (s.slot j).reports.countP Report.isWaitingProgress ≤ Config.progressDepth
  events : s.events.length ≤ Config.eventListDepth

/-- The message list of the generator holds no vector twice (R145). -/
def State.MessagesDistinct (s : State) : Prop := s.messages.Nodup

/-- A job ring that is not CLOSED has a size of 2 to 4096 and its indices below it; its credit is at most its weight,
which is 1 to 16 (R105, R113). -/
structure JobRing.Sound (q : JobRing) : Prop where
  indices : q.state ≠ .closed →
    Config.ringSizeMin ≤ q.size ∧ q.size ≤ Config.ringSizeMax ∧ q.head < q.size ∧ q.tail < q.size
  weight : 1 ≤ q.weight ∧ q.weight ≤ 16
  credit : q.credit ≤ q.weight

/-- A report ring that is not CLOSED has a size of 2 to 4096 and its indices below it; fewer reports are unsignalled
than the coalescing count, which is 1 to 64; the coalescing time is at most 255 (R125). -/
structure Poster.Sound (p : Poster) : Prop where
  indices : p.state ≠ .closed →
    Config.ringSizeMin ≤ p.size ∧ p.size ≤ Config.ringSizeMax ∧ p.head < p.size ∧ p.tail < p.size
  count : 1 ≤ p.coalescingCount ∧ p.coalescingCount ≤ 64
  unsignalled : p.unsignalled < p.coalescingCount
  time : p.coalescingTime ≤ 255

/-- A report ring is OPEN while a write of it is in flight: a fault that makes it FAULTED ends that write, and a ring
with a write in flight is not closed (R134, R137, R151, R165). -/
def State.WritesOpen (s : State) : Prop := ∀ n : RingId, (s.poster n).inFlight ≠ none → (s.poster n).state = .open

/-- Every job ring and every report ring is sound, and the rotation pointer names a ring 1 to 7 (R105, R125). -/
structure State.RingsSound (s : State) : Prop where
  job : ∀ r : RingId, (s.jobRing r).Sound
  report : ∀ n : RingId, (s.poster n).Sound
  pointer : s.pointer ≠ 0

/-- One Lane Engine is sound. It is never both active and lent; it holds a context exactly while it has an active job;
a SPAN head that is ASKED or DEFERRED stands on a lane that is idle, not lent and not held; a HELD context has nothing
pending and no aligned arrival; and every context of a held lane is HELD (R43, R53, R55, R60, R89). -/
structure Lane.Sound (x : Lane) : Prop where
  exclusive : x.active.isSome → x.lentTo = none
  context : x.ctx.isSome = x.active.isSome
  asking : x.loanPhase ≠ .idle → x.queue ≠ [] ∧ x.active = none ∧ x.lentTo = none ∧ x.hold = false
  held : ∀ c ∈ x.ctx, c.phase = .held → c.pending = none ∧ c.alignment = []
  holding : x.hold = true → ∀ c ∈ x.ctx, c.phase = .held

/-- Every Lane Engine is sound. -/
def State.LanesSound (s : State) : Prop := ∀ l : LaneId, (s.lane l).Sound

/-- No tag stands twice in the tag map of a job ring, and ring 0 has no live job (R48). -/
structure State.TagsSound (s : State) : Prop where
  distinct : ∀ r : RingId, ((s.tagMap r).map TagEntry.tag).Nodup
  control : s.tagMap 0 = []

/-- The blocks in OFF and STOPPING hold what a stop leaves: no slot, tag, ring, report or message is left, no loan
message is in flight, and each lane holds its configuration and filter alone (R69, R105, R125, R179). That the slots
are FREE and the rotation pointer is 7 in STOPPING too is the model's choice (log entry 25). -/
structure State.Dropped (s : State) : Prop where
  slots : s.slots = State.reset.slots
  tagMaps : s.tagMaps = State.reset.tagMaps
  jobRings : s.jobRings = State.reset.jobRings
  posters : s.posters = State.reset.posters
  pointer : s.pointer = 7
  fetch : s.fetch = none
  events : s.events = []
  eventsLost : s.eventsLost = 0
  messages : s.messages = []
  loanMsgs : s.loanMsgs = []
  lanes : ∀ l : LaneId, s.lane l = droppedLane (s.lane l)

/-- In OFF nothing is outstanding, and each lane has filter 0, invert off, no candidate and no owner; in STOPPING
something is outstanding (R16, R180). -/
structure State.StopsSound (s : State) : Prop where
  dropped : s.ctl = .off ∨ s.ctl = .stopping → s.Dropped
  off : s.ctl = .off → s.accesses = [] ∧ ∀ l : LaneId,
    (s.lane l).filterWidth = 0 ∧ (s.lane l).invert = false ∧ (s.lane l).candidate = none ∧ (s.lane l).owner = none
  stopping : s.ctl = .stopping → s.accesses ≠ []

/-- The records that stand on a lane: the one in the write slot and those of the staging FIFO (R70). -/
def Lane.records (x : Lane) : List ResultRecord := x.writeSlot.toList ++ x.fifo

/-- The jobs stand where their slots say. The read in flight has its slot in FETCHING; a queue holds PENDING slots of
its own lane, none twice; an active reference names an ACTIVE slot of its own lane; and each PENDING or ACTIVE slot
stands on its staging lane so. A slot that waits is WAITING, and a slot that owes its FINAL is POSTING (R44, R50, R53,
R65, R68). The records on a lane are of ACTIVE or DRAINING slots whose staging lane it is, and `outstanding` counts a
slot's records (R44, R70, R85). -/
structure State.JobsPlaced (s : State) : Prop where
  fetching : ∀ f ∈ s.fetch, (s.slot f.slot).state = .fetching
  queued : ∀ l : LaneId, ∀ j ∈ (s.lane l).queue, (s.slot j).state = .pending ∧ (s.slot j).stagingLane = some l
  once : ∀ l : LaneId, (s.lane l).queue.Nodup
  running : ∀ l : LaneId, ∀ j ∈ (s.lane l).active, (s.slot j).state = .active ∧ (s.slot j).stagingLane = some l
  pending : ∀ j : SlotId, (s.slot j).state = .pending → ∃ l, (s.slot j).stagingLane = some l ∧ j ∈ (s.lane l).queue
  active : ∀ j : SlotId, (s.slot j).state = .active →
    ∃ l, (s.slot j).stagingLane = some l ∧ (s.lane l).active = some j
  waiting : ∀ j : SlotId, (s.slot j).wait ≠ .none → (s.slot j).state = .waiting
  owing : ∀ j : SlotId, (∃ r ∈ (s.slot j).reports, r.isFinal = true) → (s.slot j).state = .posting
  records : ∀ l : LaneId, ∀ r ∈ (s.lane l).records,
    ((s.slot r.slot).state = .active ∨ (s.slot r.slot).state = .draining) ∧ (s.slot r.slot).stagingLane = some l
  outstanding : ∀ j : SlotId,
    (s.slot j).outstanding.toNat = (allLanes.flatMap fun l => (s.lane l).records).countP fun r => r.slot == j

end Sys2Proof.Machine
end

