-- ==== Sys2Proof/Effects.lean ====
section
/-! DEFINITION. The terms in which the statements say when a command meets the part and what it leaves: a fetch read that
delivers its entry (R115), the order of a row of tests (R18, R79, R121, R147), an arrival that a context takes (R6, R7,
R10). Each is written out over the fields of the state, apart from the operations of the machine. -/

namespace Sys2Proof.Machine

/-- The fetch read `f` is in flight, for a ring that is OPEN, in a RUNNING controller: its completion is taken (R115). -/
abbrev State.Delivers (s : State) (f : FetchRecord) : Prop :=
  s.ctl = .running ∧ s.fetch = some f ∧ Access.fetch ∈ s.accesses ∧ (s.jobRing f.ring).state = .open

/-- The state in which the Dispatcher takes the entry `e` that the read `f` delivers: nothing is in flight, the head has
advanced, and the slot holds the entry's kind, tag and decoded fields (R44, R115). -/
def State.delivered (s : State) (f : FetchRecord) (e : Entry) : State :=
  { s with
    accesses := s.accesses.erase .fetch
    fetch := none
    jobRings := s.jobRings.set f.ring
      { s.jobRing f.ring with head := ((s.jobRing f.ring).head + 1) % (s.jobRing f.ring).size }
    slots := s.slots.set f.slot 
      { s.slot f.slot with kindCode := e.kindCode, tag := e.tag, job := e.job, request := e.request } }

/-- The status of the first test of a row that fails; each test stands with the status of its failure. -/
def firstRefusal : List (Bool × Status) → Option Status
  | [] => none
  | (true, _) :: rest => firstRefusal rest
  | (false, st) :: _ => some st

/-- The tests of R18 on the fields of a measurement entry, in its order. -/
def fieldTests (kind : MeasKind) (e : MeasEntry) : List (Bool × Status) :=
  [(decide (e.lane.toNat ≤ 15), .badLane),
   (kind != .span || decide (e.partner.toNat ≤ 15), .badLane),
   (kind != .span || e.partner != e.lane, .badLane),
   (decide (e.prescale.toNat ≤ 3), .badField),
   (decide (e.startSpec.toNat ≤ 3) && (kind == .tally || kind == .quiet || e.startSpec != 0), .badField),
   (kind == .cycles || (decide (1 ≤ e.stopSpec.toNat) && decide (e.stopSpec.toNat ≤ 3)), .badField),
   (kind == .width || !e.adjoin, .badField),
   (kind != .cycles || (decide (1 ≤ e.divider.toNat) && decide (e.divider.toNat ≤ 4096)), .badField),
   (!(kind == .tally || kind == .quiet) || e.window != 0, .badField),
   (kind == .quiet || !e.bandEnable || decide (e.bandLow ≤ e.bandHigh), .badField)]

/-- The seven tests of R121 on a measurement entry fetched from ring `r`, with R18's in their place, in order. -/
def checkOrder (kind : MeasKind) (r : RingId) (e : MeasEntry) (d : State) : List (Bool × Status) :=
  [(r != 0, .badKind), (e.tag != 0xFFFF, .badField)] ++ fieldTests kind e ++
  [(decide (e.address.toNat % 32 = 0) && decide (1 ≤ e.capacity.toNat), .badBuffer),
   ((d.tagMap r).all fun t => t.tag != e.tag, .dupTag),
   ((d.lane (Fin.ofNat 16 e.lane.toNat)).owner == none
      || (d.lane (Fin.ofNat 16 e.lane.toNat)).owner == some r, .notOwner),
   (decide ((d.lane (Fin.ofNat 16 e.lane.toNat)).queue.length < 8), .queueFull)]

/-- The kind code of each measurement kind (section 11.5). -/
def measurementCode : MeasKind → Byte
  | .width => 0x01
  | .cycles => 0x02
  | .span => 0x03
  | .tally => 0x04
  | .quiet => 0x05

/-- The command of a fetched measurement entry of each kind. -/
def measurementCommand (kind : MeasKind) (e : MeasEntry) : Instr :=
  match kind with
  | .width => .width e
  | .cycles => .cycles e
  | .span => .span e
  | .tally => .tally e
  | .quiet => .quiet e

/-- The arrival `a` is the next one formed on lane `l`, and the lane's own active job `j` takes it against its context
`c`, not HELD, at or after the accept-from and before the pending expiry (R6, R7, R10). -/
abbrev State.TakesArrival (s : State) (l : LaneId) (j : SlotId) (job : Job) (c : Context) (a : Arrival)
    (rest : List Arrival) : Prop :=
  s.ctl = .running ∧ (s.lane l).hold = false ∧ (s.lane l).lentTo = none ∧ (s.lane l).active = some j ∧
    (s.lane l).ctx = some c ∧ (s.slot j).job = some job ∧ (s.lane l).formed = a :: rest ∧ c.phase ≠ .held ∧
    earlier a.stamp c.acceptFrom = false ∧ ∀ p ∈ c.pending, earlier a.stamp p.nominal = true

/-- The arrival that stands first among those formed on lane `l` has been taken from them. -/
def State.consumed (s : State) (l : LaneId) (rest : List Arrival) : State :=
  s.modLane l fun x => { x with formed := rest }

/-- Whether the lane `l` of the part is idle under R6 step 5, or its job does not take the arrival `a`: it is HELD, or
the arrival is stamped before the accept-from (R7, R43). -/
abbrev State.OwnJobIgnores (s : State) (l : LaneId) (a : Arrival) : Prop :=
  (s.lane l).active = none ∨
    ∃ c, (s.lane l).ctx = some c ∧ (c.phase = .held ∨ earlier a.stamp c.acceptFrom = true)

/-- The lane acts on its new state and may then hold the job's next slot state: the explicit outcome of an activation of
the job in slot `h`, head of lane `l`'s queue with `rest` behind it (R20, R25, R52). -/
def State.activated (s : State) (l : LaneId) (h : SlotId) (rest : List SlotId) (job : Job) (c : Context) : State :=
  (s.modLane l fun x =>
    { x with queue := rest, active := some h, ctx := some c, loanPhase := .idle, partnerMark := false }).modSlot h
    fun x => { x with state := .active, startTimer := if startsAtActivation job then none else x.startTimer }

/-- An event report raised at report ring 0: appended to the list, or counted when the list holds 8 (R138). -/
def State.raised (s : State) (e : EventReport) : State :=
  if s.events.length < 8 then { s with events := s.events ++ [e] }
  else { s with eventsLost := if s.eventsLost.toNat < 255 then s.eventsLost + 1 else s.eventsLost }

/-- The context of a job that resumes at `now` on a lane with this settle interval: a fresh window for TALLY and QUIET
with start spec NONE, else ARMED, with nothing kept of what it counted (R43, R96). -/
def resumedContext (job : Job) (settleTicks : Nat) (now : Stamp) (c : Context) : Context :=
  let windowEnd := now + BitVec.ofNat 48 (job.fields.window.toNat * prescaleTicks job.fields.prescale)
  if (job.kind = .tally ∨ job.kind = .quiet) ∧ job.fields.startSpec = 0 then
    { c with
      phase := .window
      acceptFrom := now
      startTs := now
      windowEnd := windowEnd
      edgeCounter := 0
      saturated := false
      firstEdge := none
      pending := some
        { kind := .windowEnd, nominal := windowEnd, due := windowEnd + BitVec.ofNat 48 settleTicks }
      alignment := [] }
  else
    { c with
      phase := .armed
      acceptFrom := now
      edgeCounter := 0
      saturated := false
      firstEdge := none
      pending := none
      alignment := [] }

/-- The ten control requests: the entry as its slot holds it, with the kind codes of section 11.5, and contents all 0,
the tag of no job FFFFh, as a refusal at steps 1 and 2 reports them (R44, R147, R185). -/
def controlRequest : Instr → Option (Entry × FinalBody)
  | .openReportRing e =>
    some ({ kindCode := 0x22, tag := e.tag, request := some (.openReportRing e) }, .openReportRing 0 0)
  | .closeReportRing e =>
    some ({ kindCode := 0x23, tag := e.tag, request := some (.closeReportRing e) }, .closeReportRing 0 0 0)
  | .openJobRing e =>
    some ({ kindCode := 0x20, tag := e.tag, request := some (.openJobRing e) }, .openJobRing 0 0 0)
  | .closeJobRing e =>
    some ({ kindCode := 0x21, tag := e.tag, request := some (.closeJobRing e) }, .closeJobRing 0 0 0 0)
  | .setLane e => some ({ kindCode := 0x24, tag := e.tag, request := some (.setLane e) }, .setLane 0 0 0)
  | .claimLane e => some ({ kindCode := 0x25, tag := e.tag, request := some (.claimLane e) }, .claimLane 0 0 0)
  | .holdLane e =>
    some ({ kindCode := 0x26, tag := e.tag, request := some (.holdLane e) }, .holdLane 0 0 0xFFFF false)
  | .releaseLane e =>
    some ({ kindCode := 0x27, tag := e.tag, request := some (.releaseLane e) }, .releaseLane 0 0 0xFFFF)
  | .cancelJob e => some ({ kindCode := 0x28, tag := e.tag, request := some (.cancelJob e) }, .cancelJob 0 0 0)
  | .peekJob e => some ({ kindCode := 0x29, tag := e.tag, request := some (.peekJob e) }, .peekJob 0 0 0 0 0 0 0)
  | _ => none

/-- The access whose completion or fault a command is (R162, R180). -/
def finishedAccess : Instr → Option Access
  | .width _ => some .fetch
  | .cycles _ => some .fetch
  | .span _ => some .fetch
  | .tally _ => some .fetch
  | .quiet _ => some .fetch
  | .addBuffer _ => some .fetch
  | .openReportRing _ => some .fetch
  | .closeReportRing _ => some .fetch
  | .openJobRing _ => some .fetch
  | .closeJobRing _ => some .fetch
  | .setLane _ => some .fetch
  | .claimLane _ => some .fetch
  | .holdLane _ => some .fetch
  | .releaseLane _ => some .fetch
  | .cancelJob _ => some .fetch
  | .peekJob _ => some .fetch
  | .undefinedKindEntry code _ => if (kindOfCode code).isSome then none else some .fetch
  | .fetchReadFault => some .fetch
  | .recordWriteCompletion l => some (.record l)
  | .recordWriteFault l => some (.record l)
  | .reportWriteCompletion n => some (.report n)
  | .reportWriteFault n => some (.report n)
  | .ring0ReportWriteFault => some (.report 0)
  | _ => none

/-- The end of a stop: OFF, each lane with filter 0, invert off, no owner and its filtered level from the line, and the
port as after power-on (R3, R16, R140, R180). -/
def State.stopEnded (s : State) : State :=
  { s with
    ctl := .off
    accesses := []
    lanes := Vector.ofFn fun l : Fin 16 =>
      { s.lane l with
        filterWidth := 0
        invert := false
        owner := none
        filtered := s.line.getLsbD l.val
        candidate := none
        formed := [] }
    port := {} }

/-- The state in which the loan message is taken: `m` is the oldest in flight from its lane to its lane, with these
before and behind it (R54). -/
abbrev State.OldestLoan (s : State) (m : LoanMsg) (before behind : List LoanMsg) : Prop :=
  s.ctl = .running ∧ s.loanMsgs = before ++ m :: behind ∧ ∀ q ∈ before, ¬(q.src = m.src ∧ q.dst = m.dst)

/-- The command that a loan message's taking is. -/
def loanCommand (m : LoanMsg) : Instr :=
  match m.kind with
  | .request => .loanRequest m.src m.dst
  | .grant => .grant m.src m.dst
  | .defer => .defer m.src m.dst
  | .withdraw => .withdraw m.src m.dst
  | .return => .loanReturn m.src m.dst
  | .placeOpen => .placeOpenNotice m.src m.dst

/-- The place-open notices a lane sends: one to every other lane, in the order of their numbers (R54, R57, R60). -/
def placeOpenNotices (p : LaneId) (loan : Loan) : List LoanMsg :=
  ((List.finRange 16).filter fun m => m != p).map fun m => { src := p, dst := m, kind := .placeOpen, loan := loan }

/-- A command that is a write to CTRL, with the enable and the interrupt enable it writes: four rows of the command
table, and a word written to offset 000h (R173, section 11.4). -/
def ctrlWrite : Instr → Option (Bool × Bool)
  | .startUp interruptEnable => some (true, interruptEnable)
  | .stop interruptEnable => some (false, interruptEnable)
  | .interruptEnableSet enable => some (enable, true)
  | .interruptEnableClear enable => some (enable, false)
  | .registerWrite offset w v => if offset = 0 ∧ w = .word then some (v.getLsbD 0, v.getLsbD 1) else none
  | _ => none

/-- The control ring configuration is valid (R177). -/
abbrev State.ValidConfig (s : State) : Prop :=
  (2 ≤ s.cringJobSize.toNat ∧ s.cringJobSize.toNat ≤ 4096) ∧ (2 ≤ s.cringRptSize.toNat ∧ s.cringRptSize.toNat ≤ 4096) ∧
    s.cringJobBase.toNat % 64 = 0 ∧ s.cringRptBase.toNat % 32 = 0

/-- The first event of a stop: STOPPING, with every block's work dropped; each lane keeps its configuration and filter,
and the access count, the port and the registers stay (R69, R105, R125, R179). That the slots are FREE and the rotation
pointer is 7 from this event on is the model's choice (log entry 25). -/
def State.stopBegun (s : State) : State :=
  { s with
    ctl := .stopping
    lanes := Vector.ofFn fun l : Fin 16 =>
      { filterWidth := (s.lane l).filterWidth
        invert := (s.lane l).invert
        filtered := (s.lane l).filtered
        candidate := (s.lane l).candidate
        formed := (s.lane l).formed
        owner := (s.lane l).owner }
    loanMsgs := []
    slots := Vector.replicate 64 {}
    tagMaps := Vector.replicate 8 []
    jobRings := Vector.replicate 8 {}
    pointer := 7
    fetch := none
    posters := Vector.replicate 8 {}
    events := []
    eventsLost := 0
    messages := [] }

/-- The slot in DRAINING with nothing outstanding that enters POSTING in the same event (R65). -/
def State.drained (s : State) (j : SlotId) : State :=
  if (s.slot j).state = .draining ∧ (s.slot j).outstanding = 0 then enterPosting j s else s

/-- Slot `j` is DRAINING with its timer withdrawn, and ends with this status unless it has one (R47, R63, R64). -/
def State.ended (s : State) (j : SlotId) (st : Status) : State :=
  s.modSlot j fun y => { y with state := .draining, startTimer := none, endStatus := some (y.endStatus.getD st) }

/-- Job `j` has left lane `l`'s queue, the others in their order. A SPAN head that had asked for its partner has
withdrawn its request, and the loan phase and the mark of a head are dropped with it (R51, R54, R60, R62). -/
def State.leftQueue (s : State) (l : LaneId) (j : SlotId) : State :=
  let x := s.lane l
  let withdraw : LoanMsg :=
    { src := l
      dst := partnerOf (jobOf s j).fields
      kind := .withdraw
      loan := { primary := l, slot := j, number := x.loanNumber, ring := (s.slot j).ring, tag := (s.slot j).tag } }
  let isHead := x.queue.head? = some j
  { s.modLane l fun y =>
      { y with
        queue := x.queue.erase j
        loanPhase := if isHead then .idle else x.loanPhase
        partnerMark := if isHead then false else x.partnerMark } with
    loanMsgs := if isHead ∧ x.loanPhase = .asked then s.loanMsgs ++ [withdraw] else s.loanMsgs }

/-- Job `j` has left its lanes: lane `l` has no active job and no context, and the partner of a SPAN is lent to it no
longer (R20, R37, R63). -/
def State.leftLanes (s : State) (l : LaneId) (j : SlotId) : State :=
  let job := jobOf s j
  let p := partnerOf job.fields
  let lent := (s.lane p).lentTo.any fun loan => decide (loan.primary = l ∧ loan.slot = j)
  let returned := if job.kind = .span ∧ lent = true then s.modLane p fun x => { x with lentTo := none } else s
  returned.modLane l fun x => { x with active := none, ctx := none }

/-- The runs of bits that the fields of an entry take, each as its first bit and its length, from the byte offsets of
section 11.1; every other bit of the 64 bytes is reserved (R183). -/
def fieldRuns : Instr → List (Nat × Nat)
  | .width _ => measurementRuns
  | .cycles _ => measurementRuns
  | .span _ => measurementRuns
  | .tally _ => measurementRuns
  | .quiet _ => measurementRuns
  | .addBuffer _ => [bytes 0 1, bytes 2 14]
  | .openReportRing _ => [bytes 0 1, bytes 2 8, bytes 16 8]
  | .openJobRing _ => [bytes 0 1, bytes 2 5, bytes 8 2, bytes 16 8]
  | .closeReportRing _ => [bytes 0 1, bytes 2 3]
  | .closeJobRing _ => [bytes 0 1, bytes 2 3]
  | .setLane _ => [bytes 0 1, bytes 2 5]
  | .claimLane _ => [bytes 0 1, bytes 2 4]
  | .holdLane _ => [bytes 0 1, bytes 2 3]
  | .releaseLane _ => [bytes 0 1, bytes 2 3]
  | .cancelJob _ => [bytes 0 1, bytes 2 3, bytes 6 2]
  | .peekJob _ => [bytes 0 1, bytes 2 3, bytes 6 2]
  | .undefinedKindEntry _ _ => [bytes 0 1, bytes 2 2]
  | _ => []
where
  bytes (offset n : Nat) : Nat × Nat := (8 * offset, 8 * n)
  measurementRuns : List (Nat × Nat) :=
    [bytes 0 1, (8, 3), bytes 2 7, bytes 10 20, bytes 32 8]

end Sys2Proof.Machine
end

