-- ==== Sys2Proof/WellFormed.lean ====
section
/-! DEFINITION. Which terms of `Instr` spell a command of the part. Every operand of a fetched entry may hold any value
its bytes can (the refusals of R184 are the part's own answers), so only three checks are left: an undefined-kind entry
carries a code that is undefined (R120), a loan message goes from one lane to another (R54), and a write fault of
report ring 0 has a row of its own (R165, R167). -/

namespace Sys2Proof

/-- The well-formedness check of a command. -/
def Instr.wf : Instr → Bool
  | .undefinedKindEntry code _ => (Machine.kindOfCode code).isNone
  | .loanRequest src dst => src != dst
  | .grant src dst => src != dst
  | .defer src dst => src != dst
  | .withdraw src dst => src != dst
  | .loanReturn src dst => src != dst
  | .placeOpenNotice src dst => src != dst
  | .reportWriteFault ring => ring != 0
  | .edgeArrival _ _ _ => true
  | .alignedArrivalDue _ => true
  | .windowEndExpiry _ => true
  | .overflowBoundExpiry _ => true
  | .startLimitExpiry _ => true
  | .coalescingTimerExpiry _ => true
  | .width _ => true
  | .cycles _ => true
  | .span _ => true
  | .tally _ => true
  | .quiet _ => true
  | .addBuffer _ => true
  | .openReportRing _ => true
  | .closeReportRing _ => true
  | .openJobRing _ => true
  | .closeJobRing _ => true
  | .setLane _ => true
  | .claimLane _ => true
  | .holdLane _ => true
  | .releaseLane _ => true
  | .cancelJob _ => true
  | .peekJob _ => true
  | .fetchReadFault => true
  | .recordWriteCompletion _ => true
  | .recordWriteFault _ => true
  | .reportWriteCompletion _ => true
  | .ring0ReportWriteFault => true
  | .writeAcceptance => true
  | .jobTailWrite _ _ => true
  | .rptHeadWrite _ _ => true
  | .timeLoRead => true
  | .startUp _ => true
  | .stop _ => true
  | .stopEnd => true
  | .interruptEnableSet _ => true
  | .interruptEnableClear _ => true
  | .registerWrite _ _ _ => true
  | .powerOn _ => true
  | .pcieReset => true
  | .baseTick _ => true

end Sys2Proof
end

