-- ==== Sys2Proof/Certificates/Slice0/Obligations.lean ====
section
/-! DEFINITION. The statements for the provers, each from the rules of spec/ its docstring names. An event is stated by
the state it leaves before the fetch and grant decisions that close it; what those decisions do is stated once
(`SettleChangesOnlyFetchAndPort`, `FetchDecisionFollowsTheRotation`, `GrantDecisionFollowsTheRotation`). -/

section
open Sys2Proof Sys2Proof.Machine

/-! ### The step and the queue of commands -/

/-- The step takes the command at the front of the queue and runs it on the state with the queue's rest; on an empty
queue the part idles (the model's choice, log entry 16). -/
def Obligations.StepRunsTheFrontCommand : Prop :=
  (∀ (c : Instr) (rest : List Instr) (s : State), s.pending = c :: rest → step s = exec c { s with pending := rest }) ∧
  (∀ s : State, s.pending = [] → step s = .next s)

/-- Every well-formed command completes in every state and leaves the queue of waiting commands alone: events are taken
whole, and none is refused or stuck (00_scope.md, Events and order; the queue is the model's own). -/
def Obligations.EveryCommandCompletesAndKeepsTheQueue : Prop :=
  ∀ (c : Instr) (s : State), c.wf = true → ∃ t, exec c s = .next t ∧ t.pending = s.pending

/-! ### The decisions that close an event -/

/-- The fetch and grant decisions that close an event change nothing but the fetch in flight with its slot, credit and
pointer, the records, reports and messages that are issued, and the port (R111, R114, R135, R140, R145). -/
def Obligations.SettleChangesOnlyFetchAndPort : Prop :=
  ∀ u : State,
    (u.ctl ≠ .running → settle u = u) ∧
    ((settle u).ctl = u.ctl ∧ (settle u).interruptEnable = u.interruptEnable ∧
      (settle u).configError = u.configError ∧ (settle u).fatalCause = u.fatalCause ∧
      (settle u).cringJobBase = u.cringJobBase ∧ (settle u).cringRptBase = u.cringRptBase ∧
      (settle u).cringJobSize = u.cringJobSize ∧ (settle u).cringRptSize = u.cringRptSize ∧
      (settle u).readData = u.readData ∧ (settle u).timebase = u.timebase ∧ (settle u).timeHi = u.timeHi ∧
      (settle u).line = u.line ∧ (settle u).loanMsgs = u.loanMsgs ∧ (settle u).tagMaps = u.tagMaps ∧
      (settle u).events = u.events ∧ (settle u).pending = u.pending) ∧
    (∀ l : LaneId,
      (settle u).lane l =
        { u.lane l with fifo := ((settle u).lane l).fifo, writeSlot := ((settle u).lane l).writeSlot } ∧
      ((settle u).lane l).writeSlot.toList ++ ((settle u).lane l).fifo =
        (u.lane l).writeSlot.toList ++ (u.lane l).fifo) ∧
    (∀ j : SlotId, (u.slot j).state ≠ .free →
      (settle u).slot j = { u.slot j with reports := ((settle u).slot j).reports } ∧
      ((settle u).slot j).reports.map Report.body = (u.slot j).reports.map Report.body) ∧
    (∀ r : RingId, (settle u).jobRing r = { u.jobRing r with credit := ((settle u).jobRing r).credit }) ∧
    (∀ n : RingId, (settle u).poster n = { u.poster n with inFlight := ((settle u).poster n).inFlight }) ∧
    ((settle u).messages = u.messages ∨ (settle u).messages = u.messages.tail) ∧
    ((settle u).eventsLost = u.eventsLost ∨ (settle u).eventsLost = 0) ∧
    ∃ issued, (settle u).accesses = u.accesses ++ issued

/-- A fetch decision is taken in RUNNING with no read in flight. It chooses ring 0 when that is eligible, else the ring
under the pointer while it is eligible and has credit, else the first eligible ring after the pointer, which takes its
weight as credit; and it issues the read of the ring's head into the lowest FREE slot. Without an eligible ring nothing
moves (R110 to R114). -/
def Obligations.FetchDecisionFollowsTheRotation : Prop :=
  let eligible := fun (s : State) (r : RingId) =>
    (s.jobRing r).state = .open ∧ (s.jobRing r).head ≠ (s.jobRing r).tail ∧
      (if r = 0 then 1 ≤ freeSlots s else (s.poster (s.jobRing r).bound).state = .open ∧ 5 ≤ freeSlots s)
  let after := fun (p : RingId) (k : Nat) => (Fin.ofNat 8 ((p.val + k) % 7 + 1) : RingId)
  let issued := fun (s : State) (r : RingId) (j : SlotId) =>
    { s with
      slots := s.slots.set j { state := .fetching, ring := r }
      fetch := some { ring := r, index := (s.jobRing r).head, slot := j }
      accesses := s.accesses ++ [.fetch] }
  ∀ s : State,
    ((s.ctl ≠ .running ∨ s.fetch ≠ none ∨ ∀ r, ¬ eligible s r) → fetchDecision s = s) ∧
    (s.ctl = .running → s.fetch = none → ∀ j : SlotId, (s.slot j).state = .free →
      (∀ i : SlotId, i < j → (s.slot i).state ≠ .free) →
      (eligible s 0 → fetchDecision s = issued s 0 j) ∧
      (¬ eligible s 0 → eligible s s.pointer → 0 < (s.jobRing s.pointer).credit →
        fetchDecision s = (issued s s.pointer j).modJobRing s.pointer fun q => { q with credit := q.credit - 1 }) ∧
      (∀ k < 7, ¬ eligible s 0 → ¬ (eligible s s.pointer ∧ 0 < (s.jobRing s.pointer).credit) →
        eligible s (after s.pointer k) → (∀ i < k, ¬ eligible s (after s.pointer i)) →
        fetchDecision s =
          (({ issued s (after s.pointer k) j with pointer := after s.pointer k }).modJobRing s.pointer
            fun q => { q with credit := 0 }).modJobRing (after s.pointer k) fun q => { q with credit := q.weight - 1 }))

/-- A lane's request stands with a staged record and an empty write slot; a poster's on an OPEN ring that is not full,
with no write in flight and a report to post; the generator's with a vector in its list. A request stands just while
its rule's conditions hold (log entry 5). A grant decision is taken in RUNNING with the port free. It grants the first
requester whose request stands, searching from the position after the one granted last and wrapping; the granted lane,
poster or generator issues its write, and the port becomes busy with it (R76, R127, R134, R135, R139, R140, R145). The
address of a place wraps modulo 2^64 (the model's choice, log entry 20). What the bytes hold is
`EntriesRecordsAndReportsHaveTheirBytes`. -/
def Obligations.GrantDecisionFollowsTheRotation : Prop :=
  let stands := fun (s : State) (k : Fin 25) =>
    (∃ l : LaneId, k.val = l.val ∧ (s.lane l).fifo ≠ [] ∧ (s.lane l).writeSlot = none) ∨
    (∃ n : RingId, k.val = 16 + n.val ∧ (s.poster n).state = .open ∧ (s.poster n).inFlight = none ∧
      ((s.poster n).tail + 1) % (s.poster n).size ≠ (s.poster n).head ∧
      ((s.poster n).queue ≠ [] ∨ (n = 0 ∧ s.events ≠ []))) ∨
    (k.val = 24 ∧ s.messages ≠ [])
  ∀ s : State,
    ((s.ctl ≠ .running ∨ s.port.busy ≠ none ∨ ∀ k, ¬ stands s k) → portDecision s = s) ∧
    (s.ctl = .running → s.port.busy = none → ∀ (d : Nat) (k : Fin 25), d < 25 →
      k = Fin.ofNat 25 (s.port.position.val + 1 + d) → stands s k →
      (∀ i < d, ¬ stands s (Fin.ofNat 25 (s.port.position.val + 1 + i))) →
      (∀ (l : LaneId) (r : ResultRecord) (rest : List ResultRecord), k.val = l.val → (s.lane l).fifo = r :: rest →
        portDecision s =
          { s.modLane l (fun x => { x with fifo := rest, writeSlot := some r }) with
            accesses := s.accesses ++ [.record l]
            port := { position := k, busy := some (.record l r.place (recordBytes r)) } }) ∧
      (∀ (e : EventReport) (others : List EventReport), k.val = 16 → s.events = e :: others →
        portDecision s =
          { s.modPoster 0 (fun p => { p with inFlight := some .event }) with
            accesses := s.accesses ++ [.report 0]
            eventsLost := 0
            port :=
              { position := k
                busy := some (.report 0 ((s.poster 0).base + BitVec.ofNat 64 (32 * (s.poster 0).tail))
                  (eventBytes e ((s.poster 0).sequence + 1) s.eventsLost)) } }) ∧
      (∀ (n : RingId) (j : SlotId) (q : List SlotId) (r : Report) (others : List Report), k.val = 16 + n.val →
        (n = 0 → s.events = []) → (s.poster n).queue = j :: q → (s.slot j).reports = r :: others →
        let filled := { r with
          inFlight := true
          sequence := (s.poster n).sequence + 1
          ringHead := BitVec.ofNat 16 (s.jobRing r.ring).head }
        portDecision s =
          { (s.modSlot j fun x => { x with reports := filled :: others }).modPoster n
              (fun p => { p with inFlight := some (.slot j) }) with
            accesses := s.accesses ++ [.report n]
            port :=
              { position := k
                busy := some (.report n ((s.poster n).base + BitVec.ofNat 64 (32 * (s.poster n).tail))
                  (reportBytes filled)) } }) ∧
      (∀ (v : Vec) (rest : List Vec), k.val = 24 → s.messages = v :: rest →
        portDecision s =
          { s with
            accesses := s.accesses ++ [.message]
            messages := rest
            port := { position := k, busy := some (.message v) } }))

/-! ### Time -/

/-- R13: the count increases by one, modulo 2^48, at every period of the clock in every controller state; power-on sets
it to 0; nothing else changes it, so neither a stop, a start nor a host write; and every lane stamps its transitions
from it: a candidate set at a tick takes the count, and an arrival formed carries the count or the candidate that
stood. -/
def Obligations.TimebaseMovesOnlyAtTicks : Prop :=
  ∀ (c : Instr) (s t : State), exec c s = .next t →
    t.timebase.toNat =
      (match c with
      | .baseTick _ => (s.timebase.toNat + 1) % 2 ^ 48
      | .powerOn _ => 0
      | _ => s.timebase.toNat) ∧
    ∀ l : LaneId,
      (∀ stamp, (t.lane l).candidate = some stamp → (s.lane l).candidate = some stamp ∨ stamp = t.timebase) ∧
      (∀ a ∈ (t.lane l).formed,
        a ∈ (s.lane l).formed ∨ a.stamp = t.timebase ∨ (s.lane l).candidate = some a.stamp)

/-- At a tick each lane samples its input at the new count and its glitch filter follows the table of R2, in every
controller state; nothing else changes (R1, R2, R13). That F samples have shown the new level is read from the ticks
since the candidate, which stands only while every sample shows it (DEDUCED from R2). -/
def Obligations.BaseTickRunsTheGlitchFilters : Prop :=
  ∀ (levels : BitVec 16) (s : State),
    ∃ t, exec (.baseTick levels) s = .next t ∧
      t = { s with timebase := s.timebase + 1, line := levels, lanes := t.lanes } ∧
      ∀ l : LaneId,
        let x := s.lane l
        let y := t.lane l
        let level := levels.getLsbD l.val ^^ x.invert
        let polarity := if level then Polarity.rise else Polarity.fall
        y = { x with filtered := y.filtered, candidate := y.candidate, formed := y.formed } ∧
        (level = x.filtered → y.filtered = x.filtered ∧ y.candidate = none ∧ y.formed = x.formed) ∧
        (level ≠ x.filtered → x.candidate = none → x.filterWidth ≠ 0 →
          y.filtered = x.filtered ∧ y.candidate = some t.timebase ∧ y.formed = x.formed) ∧
        (level ≠ x.filtered → x.candidate = none → x.filterWidth = 0 →
          y.filtered = level ∧ y.candidate = none ∧ y.formed = x.formed ++ [⟨polarity, t.timebase⟩]) ∧
        (∀ t0, level ≠ x.filtered → x.candidate = some t0 → x.filterWidth.toNat ≤ (t.timebase - t0).toNat →
          y.filtered = level ∧ y.candidate = none ∧ y.formed = x.formed ++ [⟨polarity, t0⟩]) ∧
        (∀ t0, level ≠ x.filtered → x.candidate = some t0 → (t.timebase - t0).toNat < x.filterWidth.toNat →
          y.filtered = x.filtered ∧ y.candidate = some t0 ∧ y.formed = x.formed)

/-- R14: a read of TIME_LO returns bits 0 to 31 of the count and copies bits 32 to 47 into the latch, in every
controller state; a read of TIME_HI returns the latch in bits 0 to 15; writes of either are ignored; only power-on,
which sets it to 0, changes the latch otherwise. -/
def Obligations.TimeLoReadFillsTheLatch : Prop :=
  (∀ s : State,
    exec .timeLoRead s =
      .next { s with readData := s.timebase.setWidth 32, timeHi := (s.timebase >>> 32).setWidth 16 } ∧
    readWindow 0x030 .word s = s.timebase.setWidth 32 ∧
    readWindow 0x034 .word s = s.timeHi.setWidth 32) ∧
  (∀ (v : BitVec 32) (s : State),
    exec (.registerWrite 0x030 .word v) s = .next s ∧ exec (.registerWrite 0x034 .word v) s = .next s) ∧
  (∀ (c : Instr) (s t : State), exec c s = .next t →
    t.timeHi =
      match c with
      | .timeLoRead => (s.timebase >>> 32).setWidth 16
      | .powerOn _ => 0
      | _ => s.timeHi)

/-! ### Edge arrivals -/

/-- R6 and R7: an arrival is taken from those formed and has no other effect when the controller is not RUNNING, when
the lane is held, when the lane is idle, when the job is HELD, and when it is stamped before the accept-from; so is a
partner arrival while the SPAN that the lane is lent to is not its primary's active job, though another job be active
there (R6, R61). An arrival that the filter has not formed is no event (log entry 2). -/
def Obligations.ArrivalsThatNoContextTakes : Prop :=
  (∀ (l : LaneId) (a : Arrival) (rest : List Arrival) (s : State), (s.lane l).formed = a :: rest →
    (s.ctl ≠ .running ∨ (s.lane l).hold = true ∨
      ((s.lane l).lentTo = none ∧ s.OwnJobIgnores l a) ∨
      (∃ loan, (s.lane l).lentTo = some loan ∧
        ((¬ ∃ job, (s.lane loan.primary).active = some loan.slot ∧ (s.slot loan.slot).job = some job ∧
            job.kind = .span ∧ Fin.ofNat 16 job.fields.partner.toNat = l) ∨
          s.OwnJobIgnores loan.primary a))) →
    exec (.edgeArrival l a.polarity a.stamp) s = .next (settle (s.consumed l rest))) ∧
  (∀ (l : LaneId) (polarity : Polarity) (stamp : Stamp) (s : State),
    (s.lane l).formed.head? ≠ some ⟨polarity, stamp⟩ → exec (.edgeArrival l polarity stamp) s = .next s)

/-- R28 and R31: at a WIDTH or CYCLES context in ARMED, an arrival that matches the start spec moves it to MEASURING,
with `start_ts` its timestamp, the edge counter 0 and the overflow bound 2^32 job ticks and the filter width later, and
withdraws the start limit; any other is ignored. Spec RISE is matched by a rise, FALL by a fall, EITHER by both and
NONE by nothing (R5); a job tick is 1, 8, 64 or 512 base ticks (R19); and a timestamp is earlier than another when the
difference between them lies from 1 to 2^47 (R8). -/
def Obligations.StartEdgeBeginsTheMeasurement : Prop :=
  (∀ (spec : Byte) (polarity : Polarity), matchesSpec spec polarity = true ↔
    spec = 3 ∨ (spec = 1 ∧ polarity = .rise) ∨ (spec = 2 ∧ polarity = .fall)) ∧
  (prescaleTicks 0 = 1 ∧ prescaleTicks 1 = 8 ∧ prescaleTicks 2 = 64 ∧ prescaleTicks 3 = 512) ∧
  (∀ a b : Stamp, earlier a b = true ↔ 1 ≤ (b - a).toNat ∧ (b - a).toNat ≤ 2 ^ 47) ∧
  ∀ (l : LaneId) (j : SlotId) (job : Job) (c : Context) (a : Arrival) (rest : List Arrival) (s : State),
    s.TakesArrival l j job c a rest → job.kind = .width ∨ job.kind = .cycles → c.phase = .armed →
    let bound := a.stamp + BitVec.ofNat 48 (2 ^ 32 * prescaleTicks job.fields.prescale)
    exec (.edgeArrival l a.polarity a.stamp) s = .next (settle
      (if matchesSpec job.fields.startSpec a.polarity then
        ((s.consumed l rest).modLane l fun x =>
          { x with
            ctx := some
              { c with
                phase := .measuring
                startTs := a.stamp
                edgeCounter := 0
                pending := some
                  { kind := .overflow
                    nominal := bound
                    due := bound + BitVec.ofNat 48 (s.lane l).filterWidth.toNat } } }).modSlot j
          fun y => { y with startTimer := none }
      else s.consumed l rest))

/-- R29: at a WIDTH context in MEASURING, an arrival that matches the stop spec produces a measurement of the duration
in job ticks, with its polarity as `aux`; the context goes on from the same edge when adjoin is on and the edge matches
the start spec, and otherwise to ARMED. Any other arrival is ignored. What a production does is
`ProductionAccountsAndEnds`. -/
def Obligations.WidthStopEdgeProduces : Prop :=
  ∀ (l : LaneId) (j : SlotId) (job : Job) (c : Context) (a : Arrival) (rest : List Arrival) (s : State),
    s.TakesArrival l j job c a rest → job.kind = .width → c.phase = .measuring →
    let ticks := prescaleTicks job.fields.prescale
    let bound := a.stamp + BitVec.ofNat 48 (2 ^ 32 * ticks)
    let next : Context :=
      if job.fields.adjoin = true ∧ matchesSpec job.fields.startSpec a.polarity = true then
        { c with
          startTs := a.stamp
          edgeCounter := 0
          pending := some
            { kind := .overflow
              nominal := bound
              due := bound + BitVec.ofNat 48 (s.lane l).filterWidth.toNat } }
      else { c with phase := .armed, edgeCounter := 0, pending := none }
    exec (.edgeArrival l a.polarity a.stamp) s = .next (settle
      (if matchesSpec job.fields.stopSpec a.polarity then
        produce l j
          { value := BitVec.ofNat 32 ((a.stamp - c.startTs).toNat / ticks)
            aux := match a.polarity with | .rise => 1 | .fall => 2
            startTs := c.startTs
            endTs := a.stamp } next (s.consumed l rest)
      else s.consumed l rest))

/-- R32: at a CYCLES context in MEASURING, each arrival that matches the start spec counts; the D-th produces a
measurement of the whole span with `aux` D, and starts the next one at once. Any other arrival is ignored. -/
def Obligations.CyclesCountsStartEdges : Prop :=
  ∀ (l : LaneId) (j : SlotId) (job : Job) (c : Context) (a : Arrival) (rest : List Arrival) (s : State),
    s.TakesArrival l j job c a rest → job.kind = .cycles → c.phase = .measuring →
    let ticks := prescaleTicks job.fields.prescale
    let bound := a.stamp + BitVec.ofNat 48 (2 ^ 32 * ticks)
    exec (.edgeArrival l a.polarity a.stamp) s = .next (settle
      (if matchesSpec job.fields.startSpec a.polarity then
        if c.edgeCounter + 1 = job.fields.divider.setWidth 32 then
          produce l j
            { value := BitVec.ofNat 32 ((a.stamp - c.startTs).toNat / ticks)
              aux := job.fields.divider.setWidth 32
              startTs := c.startTs
              endTs := a.stamp }
            { c with
              startTs := a.stamp
              edgeCounter := 0
              pending := some
                { kind := .overflow
                  nominal := bound
                  due := bound + BitVec.ofNat 48 (s.lane l).filterWidth.toNat } } (s.consumed l rest)
        else (s.consumed l rest).modLane l fun x => { x with ctx := some { c with edgeCounter := c.edgeCounter + 1 } }
      else s.consumed l rest))

/-- R38, R39 and R41: in WINDOW an arrival that matches the stop spec is counted by a TALLY, up to FFFFFFFFh and then
saturating, and gives a QUIET its first-edge offset when that is absent; in ARMED one that matches the start spec opens
the first window at its timestamp, counts in it when it matches the stop spec too, and withdraws the start limit. -/
def Obligations.WindowsCountArrivals : Prop :=
  ∀ (l : LaneId) (j : SlotId) (job : Job) (c : Context) (a : Arrival) (rest : List Arrival) (s : State),
    s.TakesArrival l j job c a rest → job.kind = .tally ∨ job.kind = .quiet →
    let ticks := prescaleTicks job.fields.prescale
    let stop := matchesSpec job.fields.stopSpec a.polarity
    let windowEnd := a.stamp + BitVec.ofNat 48 (job.fields.window.toNat * ticks)
    let counted := fun c : Context =>
      if stop = false then c
      else if job.kind = .tally then
        if c.edgeCounter = 0xFFFFFFFF then { c with saturated := true }
        else { c with edgeCounter := c.edgeCounter + 1 }
      else if c.firstEdge = none then
        { c with firstEdge := some (BitVec.ofNat 32 ((a.stamp - c.startTs).toNat / ticks)) }
      else c
    let opened : Context :=
      { c with
        phase := .window
        startTs := a.stamp
        windowEnd := windowEnd
        edgeCounter := 0
        saturated := false
        firstEdge := none
        pending := some
          { kind := .windowEnd
            nominal := windowEnd
            due := windowEnd + BitVec.ofNat 48 (s.lane l).filterWidth.toNat } }
    (c.phase = .window →
      exec (.edgeArrival l a.polarity a.stamp) s =
        .next (settle ((s.consumed l rest).modLane l fun x => { x with ctx := some (counted c) }))) ∧
    (c.phase = .armed →
      exec (.edgeArrival l a.polarity a.stamp) s = .next (settle
        (if matchesSpec job.fields.startSpec a.polarity then
          ((s.consumed l rest).modLane l fun x => { x with ctx := some (counted opened) }).modSlot j
            fun y => { y with startTimer := none }
        else s.consumed l rest)))

/-- R6 step 3 and R35: an arrival at either lane of an active SPAN takes its place in the alignment list of the
primary's context, in timestamp order, with the lane it came from; a lent lane passes its arrivals on. S is the larger
of the two filter widths. One that is due already when it is formed (its lane's F is S) is taken at once, behind those
ahead of it; what each taking does is `AlignedArrivalsAreTakenWhenDue`. An arrival goes behind one with the same
timestamp (the model's choice, log entry 18). -/
def Obligations.SpanArrivalsAreAligned : Prop :=
  ∀ (l p : LaneId) (j : SlotId) (job : Job) (c : Context) (a : Arrival) (rest : List Arrival) (s : State),
    s.ctl = .running → (s.lane l).hold = false → (s.lane l).formed = a :: rest →
    ((s.lane l).lentTo = none ∧ p = l ∨
      ∃ loan, (s.lane l).lentTo = some loan ∧ loan.primary = p ∧ loan.slot = j ∧
        Fin.ofNat 16 job.fields.partner.toNat = l) →
    (s.lane p).active = some j → (s.lane p).ctx = some c → (s.slot j).job = some job → job.kind = .span →
    c.phase ≠ .held → earlier a.stamp c.acceptFrom = false →
    let due := a.stamp + BitVec.ofNat 48
      (max (s.lane p).filterWidth.toNat (s.lane (Fin.ofNat 16 job.fields.partner.toNat)).filterWidth.toNat)
    ∃ before behind,
      c.alignment = before ++ behind ∧
      (∀ b ∈ before, earlier a.stamp b.2.stamp = false) ∧
      (∀ b ∈ behind.head?, earlier a.stamp b.2.stamp = true) ∧
      let placed := (s.consumed l rest).modLane p fun x =>
        { x with ctx := some { c with alignment := before ++ (l, a) :: behind } }
      (earlier s.timebase due = true → exec (.edgeArrival l a.polarity a.stamp) s = .next (settle placed)) ∧
      (earlier s.timebase due = false →
        exec (.edgeArrival l a.polarity a.stamp) s =
          .next (settle ((takeAligned p)^[c.alignment.length + 1] placed)))

/-- R35 and R36: the oldest aligned arrival of a SPAN is taken when the timebase reaches its timestamp plus S. In ARMED
a primary edge that matches the start spec starts the measurement; in MEASURING a partner edge that matches the stop
spec and is stamped later than `start_ts` produces it and returns the context to ARMED; every other is ignored. Before
that instant nothing is taken (log entry 4). R10: one stamped at or after the pending overflow bound is taken after the
bound: against the context in ARMED that the overflow leaves, or, when the overflow ends the job, as an arrival that
reaches its lane in the state the end leaves. -/
def Obligations.AlignedArrivalsAreTakenWhenDue : Prop :=
  ∀ (l src : LaneId) (j : SlotId) (job : Job) (c : Context) (a : Arrival) (rest : List (LaneId × Arrival)) (s : State),
    (s.lane l).active = some j → (s.lane l).ctx = some c → (s.slot j).job = some job → job.kind = .span →
    c.alignment = (src, a) :: rest →
    let settleTicks :=
      max (s.lane l).filterWidth.toNat (s.lane (Fin.ofNat 16 job.fields.partner.toNat)).filterWidth.toNat
    let ticks := prescaleTicks job.fields.prescale
    let bound := a.stamp + BitVec.ofNat 48 (2 ^ 32 * ticks)
    let c' := { c with alignment := rest }
    let s' := s.modLane l fun x => { x with ctx := some c' }
    let early := earlier s.timebase (a.stamp + BitVec.ofNat 48 settleTicks)
    (s.ctl = .running → early = false → exec (.alignedArrivalDue l) s = .next (settle (takeAligned l s))) ∧
    (s.ctl ≠ .running ∨ early = true → exec (.alignedArrivalDue l) s = .next s) ∧
    (early = true → takeAligned l s = s) ∧
    (early = false → c.phase = .armed ∨ c.phase = .measuring → earlier a.stamp c.acceptFrom = false →
      (∀ p ∈ c.pending, earlier a.stamp p.nominal = true) →
      takeAligned l s =
        if c.phase = .armed then
          if src = l ∧ matchesSpec job.fields.startSpec a.polarity = true then
            (s'.modLane l fun x =>
              { x with
                ctx := some
                  { c' with
                    phase := .measuring
                    startTs := a.stamp
                    edgeCounter := 0
                    pending := some
                      { kind := .overflow, nominal := bound, due := bound + BitVec.ofNat 48 settleTicks } } }).modSlot j
              fun y => { y with startTimer := none }
          else s'
        else if src ≠ l ∧ matchesSpec job.fields.stopSpec a.polarity = true ∧ earlier c.startTs a.stamp = true then
          produce l j
            { value := BitVec.ofNat 32 ((a.stamp - c.startTs).toNat / ticks)
              aux := match a.polarity with | .rise => 1 | .fall => 2
              startTs := c.startTs
              endTs := a.stamp } { c' with phase := .armed, edgeCounter := 0, pending := none } s'
        else s') ∧
    (∀ p : Expiry, early = false → c.pending = some p → p.kind = .overflow → earlier a.stamp p.nominal = false →
      let m : Measurement :=
        { value := 0xFFFFFFFF, aux := 0, startTs := c.startTs, endTs := p.nominal, overflow := true }
      let ends := productionEnd job (measurementFlags job m.value true false) ((s.slot j).produced + 1)
      (ends = none →
        takeAligned l s =
          takeAligned l (produce l j m { c with phase := .armed, edgeCounter := 0, pending := none } s)) ∧
      (ends ≠ none →
        let v := produce l j m { c' with phase := .armed, edgeCounter := 0, pending := none } s'
        let x := v.lane src
        (v.lane l).active ≠ some j → x.lentTo = none → (∀ i ∈ x.active, ∀ k ∈ (v.slot i).job, k.kind ≠ .span) →
        (∀ k ∈ x.ctx, ∀ q ∈ k.pending, earlier a.stamp q.nominal = true) →
        .next (settle (takeAligned l s)) =
          exec (.edgeArrival src a.polarity a.stamp) (v.modLane src fun y => { y with formed := a :: y.formed })))

/-! ### Expiries -/

/-- R10, R40 and R42: when the window-end expiry of a TALLY or QUIET context is due it is taken: the window's
measurement is produced, with the count, or the first-edge offset with EDGE_SEEN, or FFFFFFFFh, and the next window
opens where this one ended. An arrival stamped at or after the window's end is taken as if the expiry had been taken
first (stated where the production does not end the job). An expiry that is not due, or not pending, is no event (log
entry 4). -/
def Obligations.WindowEndProducesAndReopens : Prop :=
  ∀ (l : LaneId) (j : SlotId) (job : Job) (c : Context) (p : Expiry) (s : State),
    (s.lane l).active = some j → (s.lane l).ctx = some c → (s.slot j).job = some job →
    job.kind = .tally ∨ job.kind = .quiet → c.pending = some p → p.kind = .windowEnd →
    let windowEnd := p.nominal + BitVec.ofNat 48 (job.fields.window.toNat * prescaleTicks job.fields.prescale)
    let m : Measurement :=
      { value := if job.kind = .tally then c.edgeCounter else c.firstEdge.getD 0xFFFFFFFF
        aux := job.fields.window
        startTs := c.startTs
        endTs := p.nominal
        overflow := job.kind == .tally && c.saturated
        edgeSeen := job.kind == .quiet && c.firstEdge.isSome }
    let next : Context :=
      { c with
        phase := .window
        startTs := p.nominal
        windowEnd := windowEnd
        edgeCounter := 0
        saturated := false
        firstEdge := none
        pending := some
          { kind := .windowEnd
            nominal := windowEnd
            due := windowEnd + BitVec.ofNat 48 (s.lane l).filterWidth.toNat } }
    (s.ctl = .running → earlier s.timebase p.due = false →
      exec (.windowEndExpiry l) s = .next (settle (produce l j m next s))) ∧
    (∀ (a : Arrival) (rest : List Arrival), s.ctl = .running → (s.lane l).hold = false → (s.lane l).lentTo = none →
      (s.lane l).formed = a :: rest → c.phase = .window → earlier a.stamp c.acceptFrom = false →
      earlier a.stamp p.nominal = false → job.fields.window ≠ 0 →
      productionEnd job (measurementFlags job m.value m.overflow m.edgeSeen) ((s.slot j).produced + 1) = none →
      exec (.edgeArrival l a.polarity a.stamp) s = exec (.edgeArrival l a.polarity a.stamp) (produce l j m next s)) ∧
    (s.ctl ≠ .running ∨ earlier s.timebase p.due = true → exec (.windowEndExpiry l) s = .next s) ∧
    exec (.overflowBoundExpiry l) s = .next s

/-- R10, R30, R33 and R37: when the overflow bound of a WIDTH, CYCLES or SPAN context is due it is taken: a measurement
of FFFFFFFFh with OVERFLOW is produced, `aux` D for CYCLES and NONE otherwise, ending at the bound, and the context
returns to ARMED. An arrival at a WIDTH or CYCLES context stamped at or after the bound is taken as if the expiry had
been taken first (stated where the production does not end the job). A bound that is not due, or not pending, is no
event (log entry 4). -/
def Obligations.OverflowBoundProduces : Prop :=
  ∀ (l : LaneId) (j : SlotId) (job : Job) (c : Context) (p : Expiry) (s : State),
    (s.lane l).active = some j → (s.lane l).ctx = some c → (s.slot j).job = some job →
    c.pending = some p → p.kind = .overflow →
    let m : Measurement :=
      { value := 0xFFFFFFFF
        aux := if job.kind = .cycles then job.fields.divider.setWidth 32 else 0
        startTs := c.startTs
        endTs := p.nominal
        overflow := true }
    let next : Context := { c with phase := .armed, edgeCounter := 0, pending := none }
    (s.ctl = .running → earlier s.timebase p.due = false →
      exec (.overflowBoundExpiry l) s = .next (settle (produce l j m next s))) ∧
    (∀ (a : Arrival) (rest : List Arrival), s.ctl = .running → (s.lane l).hold = false → (s.lane l).lentTo = none →
      (s.lane l).formed = a :: rest → job.kind = .width ∨ job.kind = .cycles → c.phase = .measuring →
      earlier a.stamp c.acceptFrom = false → earlier a.stamp p.nominal = false →
      productionEnd job (measurementFlags job m.value m.overflow m.edgeSeen) ((s.slot j).produced + 1) = none →
      exec (.edgeArrival l a.polarity a.stamp) s = exec (.edgeArrival l a.polarity a.stamp) (produce l j m next s)) ∧
    (s.ctl ≠ .running ∨ earlier s.timebase p.due = true → exec (.overflowBoundExpiry l) s = .next s) ∧
    exec (.windowEndExpiry l) s = .next s

/-- R26: a start limit that is due ends its job with START_TIMEOUT, out of the queue when it is PENDING and off its
lanes when it is ACTIVE; a timer that is withdrawn or not due is no event, and one may be taken after its instant (log
entry 4). What the ends do is `AnEndFreesTheLanes`. -/
def Obligations.StartLimitEndsTheJob : Prop :=
  ∀ (j : SlotId) (s : State),
    (∀ (due : Stamp) (l : LaneId), s.ctl = .running → (s.slot j).startTimer = some due →
      earlier s.timebase due = false → (s.slot j).stagingLane = some l →
      ((s.slot j).state = .pending →
        exec (.startLimitExpiry j) s = .next (settle (endPending l j .startTimeout s))) ∧
      ((s.slot j).state = .active →
        exec (.startLimitExpiry j) s = .next (settle (endActive l j .startTimeout s)))) ∧
    (s.ctl ≠ .running ∨ (∀ due ∈ (s.slot j).startTimer, earlier s.timebase due = true) →
      exec (.startLimitExpiry j) s = .next s)

/-- R143 and R144: a coalescing timer that is due, with reports unsignalled, clears the count, stops and requests a
message: the ring's vector enters the message list when it is not there already, or the pending-message flag is set
when interrupt enable is clear. A timer that is stopped or not due is no event, and one may be taken after its instant
(log entry 4). -/
def Obligations.CoalescingExpiryRequestsAMessage : Prop :=
  ∀ (n : RingId) (s : State),
    (∀ due, s.ctl = .running → (s.poster n).timer = some due → earlier s.timebase due = false →
      0 < (s.poster n).unsignalled →
      exec (.coalescingTimerExpiry n) s = .next (settle
        (if s.interruptEnable then
          { s.modPoster n (fun p => { p with unsignalled := 0, timer := none }) with
            messages :=
              if (s.poster n).vector ∈ s.messages then s.messages else s.messages ++ [(s.poster n).vector] }
        else s.modPoster n fun p => { p with unsignalled := 0, timer := none, pendingMessage := true }))) ∧
    (s.ctl ≠ .running ∨ (∀ due ∈ (s.poster n).timer, earlier s.timebase due = true) →
      exec (.coalescingTimerExpiry n) s = .next s)

/-! ### Production, ends and reports -/

/-- R21 to R24: the flags of a measurement (an overflow is BAND_HIGH whatever the limits, and a QUIET is never checked),
and the end a production brings: BAND_STOP on a triggering one, before OK at the repeat count. -/
def Obligations.BandAndRepeatDecideTheEnd : Prop :=
  ∀ (job : Job) (value : BitVec 32) (overflow edgeSeen : Bool) (produced : BitVec 64),
    let flags := measurementFlags job value overflow edgeSeen
    let checked := job.fields.bandEnable = true ∧ job.kind ≠ .quiet
    let triggers := if job.kind = .quiet then flags.edgeSeen = true else flags.bandLow = true ∨ flags.bandHigh = true
    flags.overflow = overflow ∧ flags.edgeSeen = edgeSeen ∧
    (flags.bandHigh = true ↔ checked ∧ (overflow = true ∨ (job.fields.bandLow ≤ value ∧ job.fields.bandHigh < value))) ∧
    (flags.bandLow = true ↔ checked ∧ overflow = false ∧ value < job.fields.bandLow) ∧
    (productionEnd job flags produced = some .bandStop ↔ job.fields.stopOnBand = true ∧ triggers) ∧
    (productionEnd job flags produced = some .ok ↔
      ¬(job.fields.stopOnBand = true ∧ triggers) ∧ job.fields.repeatCount ≠ 0 ∧
        produced.toNat = job.fields.repeatCount.toNat) ∧
    (productionEnd job flags produced = none ↔
      ¬(job.fields.stopOnBand = true ∧ triggers) ∧
        ¬(job.fields.repeatCount ≠ 0 ∧ produced.toNat = job.fields.repeatCount.toNat))

/-- R21, R71 to R74: a production counts in `produced` and in the flags seen, and is staged when the current buffer has
a free place and the FIFO holds fewer than 4 records: its record takes the next place, `lost_before` and AFTER_LOSS
from the loss account, and a buffer it fills moves to the landing list. A place address wraps modulo 2^64 (the model's
choice, log entry 20), and the count of places reserved is 0 once the job is starved (the model's choice, log entry
23). Otherwise the measurement is lost and counted so. The job then ends (`AnEndFreesTheLanes`) or its context goes on.
-/
def Obligations.ProductionAccountsAndEnds : Prop :=
  ∀ (l : LaneId) (j : SlotId) (m : Measurement) (next : Context) (job : Job) (s : State),
    (s.slot j).job = some job →
    let x := s.slot j
    let flags := measurementFlags job m.value m.overflow m.edgeSeen
    let counted : Slot := { x with produced := x.produced + 1, flagsSeen := x.flagsSeen.union flags }
    let goesOn := fun u : State =>
      match productionEnd job flags (x.produced + 1) with
      | some st => endActive l j st u
      | none => u.modLane l fun y => { y with ctx := some next }
    (∀ b : Buffer, x.current = some b → x.reserved < b.capacity → (s.lane l).fifo.length < 4 →
      let reserved := x.reserved + 1
      let staged : Slot :=
        { counted with lostSinceRecord := 0, outstanding := x.outstanding + 1, reserved := reserved }
      produce l j m next s = goesOn
        ((s.modLane l fun y =>
          { y with
            fifo := y.fifo ++
              [{ slot := j
                 place := b.base + BitVec.ofNat 64 (32 * x.reserved.toNat)
                 index := x.produced
                 value := m.value
                 aux := m.aux
                 startTs := m.startTs
                 endTs := m.endTs
                 flags := flags
                 afterLoss := x.lostSinceRecord != 0
                 lostBefore := x.lostSinceRecord }] }).setSlot j
          (if reserved = b.capacity then
            { staged with
              landing := x.landing ++ [b], current := x.queued.head?, queued := x.queued.tail, reserved := 0 }
          else staged))) ∧
    (x.current = none ∨ (∃ b, x.current = some b ∧ ¬ x.reserved < b.capacity) ∨ 4 ≤ (s.lane l).fifo.length →
      produce l j m next s = goesOn
        (s.setSlot j
          { counted with
            lost := if x.lost.toNat + 1 < 2 ^ 32 then x.lost + 1 else x.lost
            lostSinceRecord :=
              if x.lostSinceRecord.toNat + 1 < 2 ^ 16 then x.lostSinceRecord + 1 else x.lostSinceRecord }))

/-- R52, R55 and R57: a lane free for activation activates its head, or makes its SPAN head in IDLE ask for the
partner; a lane with an empty queue that may grant grants the request its place holds, sends the grant and tells every
other lane that the place is open; in every other state nothing happens. The notices to different lanes are sent in the
order of the lanes, behind the grant (the model's choice, log entry 13). -/
def Obligations.LanesActOnTheirNewState : Prop :=
  ∀ (l : LaneId) (s : State),
    let x := s.lane l
    let quiet := s.ctl = .running ∧ x.active = none ∧ x.lentTo = none ∧ x.hold = false
    (¬ quiet → laneAct l s = s) ∧
    (∀ (h : SlotId) (rest : List SlotId) (job : Job), quiet → x.queue = h :: rest → (s.slot h).job = some job →
      job.kind ≠ .span →
      let opens := (job.kind = .tally ∨ job.kind = .quiet) ∧ job.fields.startSpec = 0
      let windowEnd := s.timebase + BitVec.ofNat 48 (job.fields.window.toNat * prescaleTicks job.fields.prescale)
      laneAct l s = s.activated l h rest job
        (if opens then
          { phase := .window
            acceptFrom := s.timebase
            startTs := s.timebase
            windowEnd := windowEnd
            pending := some
              { kind := .windowEnd, nominal := windowEnd, due := windowEnd + BitVec.ofNat 48 x.filterWidth.toNat } }
        else { phase := .armed, acceptFrom := s.timebase })) ∧
    (∀ (h : SlotId) (rest : List SlotId) (job : Job), quiet → x.queue = h :: rest → (s.slot h).job = some job →
      job.kind = .span →
      (x.loanPhase ≠ .idle → laneAct l s = s) ∧
      (x.loanPhase = .idle →
        laneAct l s =
          { s.modLane l (fun y => { y with loanPhase := .asked, loanNumber := x.loanNumber + 1 }) with
            loanMsgs := s.loanMsgs ++
              [{ src := l
                 dst := Fin.ofNat 16 job.fields.partner.toNat
                 kind := .request
                 loan :=
                   { primary := l, slot := h, number := x.loanNumber + 1
                     ring := (s.slot h).ring, tag := (s.slot h).tag } }] })) ∧
    (quiet → x.queue = [] → x.place = none → laneAct l s = s) ∧
    (∀ loan : Loan, quiet → x.queue = [] → x.place = some loan →
      laneAct l s =
        { s.modLane l (fun y => { y with place := none, lentTo := some loan }) with
          loanMsgs := s.loanMsgs ++
            { src := l, dst := loan.primary, kind := .grant, loan := loan } :: placeOpenNotices l loan })

/-- R63, R64 and R65: the end of an active job discards its context, clears its lane's active reference and the
partner's lent-to for it, withdraws its timer, sets the end status unless it is set, and makes the slot DRAINING; each
lane freed acts on its new state; and a slot with nothing outstanding enters POSTING in the same event. A waiting job
ends so too, leaving its queue with the others in their order, and its lane acts. That the primary acts before the
partner, the lanes of an active job before the slot enters POSTING, and the lane of a waiting job after it, is the
model's choice (log entry 13). -/
def Obligations.AnEndFreesTheLanes : Prop :=
  ∀ (l : LaneId) (j : SlotId) (st : Status) (job : Job) (s : State), (s.slot j).job = some job →
    let p : LaneId := Fin.ofNat 16 job.fields.partner.toNat
    let lent := (s.lane p).lentTo.any fun loan => decide (loan.primary = l ∧ loan.slot = j)
    let returned := if job.kind = .span ∧ lent = true then s.modLane p fun x => { x with lentTo := none } else s
    let idle := returned.modLane l fun x => { x with active := none, ctx := none }
    let ended := fun u : State => u.modSlot j fun y =>
      { y with state := .draining, startTimer := none, endStatus := some (y.endStatus.getD st) }
    let posted := fun u : State =>
      if (u.slot j).state = .draining ∧ (u.slot j).outstanding = 0 then enterPosting j u else u
    (job.kind ≠ .span → endActive l j st s = posted (laneAct l (ended idle))) ∧
    (job.kind = .span → endActive l j st s = posted (laneAct p (laneAct l (ended idle)))) ∧
    ((s.lane l).queue.head? ≠ some j →
      endPending l j st s =
        laneAct l (posted (ended (s.modLane l fun x => { x with queue := x.queue.erase j })))) ∧
    (∀ rest, (s.lane l).queue = j :: rest →
      let withdrawn : State :=
        if (s.lane l).loanPhase = .asked then
          { s with
            loanMsgs := s.loanMsgs ++
              [{ src := l, dst := p, kind := .withdraw
                 loan :=
                   { primary := l, slot := j, number := (s.lane l).loanNumber
                     ring := (s.slot j).ring, tag := (s.slot j).tag } }] }
        else s
      endPending l j st s =
        laneAct l (posted (ended
          (withdrawn.modLane l fun x => { x with loanPhase := .idle, partnerMark := false, queue := rest }))))

/-- R65, R84 and R100: a slot that enters POSTING leaves its tag map and creates its FINAL with its end status and its
final account: the landed count of the oldest buffer not retired, and the other buffers unused. A CANCEL_JOB that waits
for it completes behind that FINAL with status OK, and behind the FINAL of a CLOSE_JOB_RING that the discard of that
FINAL completes (the model's choice, log entry 13). -/
def Obligations.SlotEntersPosting : Prop :=
  ∀ (j : SlotId) (s : State),
    let x := s.slot j
    let held := x.landing ++ x.current.toList ++ x.queued
    let counted := if held = [] then 0 else x.landed
    let account : FinalBody :=
      .measurement x.flagsSeen x.writeFaultMark counted
        (BitVec.ofNat 8 (held.length - (if counted = 0 then 0 else 1))) x.lost x.written x.buffersRetired
    let posted := createReport j (.final (x.endStatus.getD .ok) account)
      ((s.setTagMap x.ring ((s.tagMap x.ring).filter fun e => decide (e.slot ≠ j))).modSlot j
        fun y => { y with state := .posting, cancelWaiter := none })
    (x.cancelWaiter = none → enterPosting j s = posted) ∧
    (∀ (c : SlotId) (ring : Byte) (tag : Tag) (found : SlotState), x.cancelWaiter = some c →
      (posted.slot c).wait = .cancel ring tag found →
      enterPosting j s = answer c .ok (.cancelJob ring (slotStateCode found) tag) posted)

/-- R131, R132 and R146: a report is appended to its slot's report list and to the posting queue of the ring its entry's
ring is bound to, ring 0 for ring 0. On a FAULTED ring with an empty queue it is discarded in the same event, and a
discarded FINAL frees its slot. A slot's answer is its FINAL in POSTING with its end status (R68, R123, R147). -/
def Obligations.ReportsAreQueuedOrDiscarded : Prop :=
  (∀ (j : SlotId) (body : ReportBody) (s : State),
    let x := s.slot j
    let n : RingId := if x.ring = 0 then 0 else (s.jobRing x.ring).bound
    let report : Report := { kindCode := x.kindCode, tag := x.tag, ring := x.ring, body := body }
    ((s.poster n).state ≠ .faulted →
      createReport j body s =
        (s.modSlot j fun y => { y with reports := y.reports ++ [report] }).modPoster n
          fun p => { p with queue := p.queue ++ [j] }) ∧
    ((s.poster n).state = .faulted → (s.poster n).queue = [] → x.reports = [] →
      createReport j body s =
        match body with
        | .final _ _ => freeSlot j s
        | .progress _ _ _ => s)) ∧
  (∀ (j : SlotId) (st : Status) (body : FinalBody) (s : State),
    answer j st body s =
      createReport j (.final st body)
        (s.modSlot j fun y => { y with state := .posting, endStatus := some st, wait := .none }))

/-- R67 and R156: a slot whose FINAL is written or discarded becomes FREE with an empty report list. When a
CLOSE_JOB_RING waits for the slot's ring, its remaining count falls by one; at 0 the ring becomes CLOSED and the close
answers OK, with the jobs it ended, the slots it waited for and the head at which the ring stopped. -/
def Obligations.AFreedSlotCountsTowardTheClose : Prop :=
  ∀ (j : SlotId) (s : State),
    let r := (s.slot j).ring
    let freed := s.modSlot j fun y => { y with state := .free, reports := [] }
    ((s.jobRing r).closer = none → freeSlot j s = freed) ∧
    (∀ (c : SlotId) (remaining ended waited : Nat), (s.jobRing r).closer = some c → c ≠ j →
      (s.slot c).wait = .close r remaining ended waited →
      (1 < remaining →
        freeSlot j s = freed.modSlot c fun y => { y with wait := .close r (remaining - 1) ended waited }) ∧
      (remaining = 1 → (s.slot c).ring = 0 → (s.poster 0).state ≠ .faulted →
        freeSlot j s =
          answer c .ok
            (.closeJobRing (BitVec.ofNat 8 r.val) (BitVec.ofNat 8 ended) (BitVec.ofNat 16 waited)
              (BitVec.ofNat 16 (s.jobRing r).head))
            (freed.modJobRing r fun q => { q with state := .closed, closer := none })))

/-! ### Fetched entries -/

/-- R49: a lookup on ring 0 is ABSENT. On rings 1 to 7 it is LIVE with the slot of the map's entry for the tag, ENDED
when the map holds none but a slot in POSTING holds an accepted job of that ring and tag (R123), and else ABSENT. A
ring byte of a request is looked up as that ring; one outside 0 to 7 is ABSENT (R97). -/
def Obligations.TagLookupsAnswerLiveEndedOrAbsent : Prop :=
  ∀ (r : RingId) (tag : Tag) (s : State),
    lookupTag 0 tag s = .absent ∧
    (∀ b : Byte, 7 < b.toNat → lookupByte b tag s = .absent) ∧
    lookupByte (BitVec.ofNat 8 r.val) tag s = lookupTag r tag s ∧
    (r ≠ 0 →
      (∀ before entry behind, s.tagMap r = before ++ entry :: behind → entry.tag = tag →
        (∀ e ∈ before, e.tag ≠ tag) → lookupTag r tag s = .live entry.slot) ∧
      ((∀ e ∈ s.tagMap r, e.tag ≠ tag) →
        (lookupTag r tag s = .ended ↔
          ∃ j : SlotId, (s.slot j).state = .posting ∧ (s.slot j).stagingLane ≠ none ∧ (s.slot j).ring = r ∧
            (s.slot j).tag = tag) ∧
        (lookupTag r tag s = .absent ↔ lookupTag r tag s ≠ .ended)))

/-- R18, R50, R121 and R123: a delivered measurement entry is refused with the status of the first test that fails,
with counts of 0. When all pass, its slot becomes PENDING with the first buffer current, its tag enters the map, its
start limit is armed, and it joins its lane's queue; alone in it, the lane acts on it at once. It is then ACTIVE
exactly when it is no SPAN and the lane was free. -/
def Obligations.MeasurementEntriesAreCheckedAndOffered : Prop :=
  ∀ (kind : MeasKind) (e : MeasEntry) (f : FetchRecord) (s : State), s.Delivers f →
    let d := s.delivered f
      { kindCode := measurementCode kind, tag := e.tag, job := some { kind := kind, fields := e } }
    let l : LaneId := Fin.ofNat 16 e.lane.toNat
    let accepted := (d.modSlot f.slot fun x =>
      { x with
        state := .pending
        stagingLane := some l
        current := some { base := e.address, capacity := e.capacity }
        reserved := 0
        landed := 0
        queued := []
        startTimer :=
          if e.startLimit = 0 then none
          else some (s.timebase + BitVec.ofNat 48 (e.startLimit.toNat * 100000)) }).setTagMap f.ring
      (s.tagMap f.ring ++ [{ tag := e.tag, slot := f.slot }])
    let offered :=
      if (s.lane l).queue = [] then
        laneAct l (accepted.modLane l fun x =>
          { x with queue := [f.slot], loanPhase := .idle, partnerMark := false })
      else accepted.modLane l fun x => { x with queue := x.queue ++ [f.slot] }
    match firstRefusal (checkOrder kind f.ring e d) with
    | some st =>
      exec (measurementCommand kind e) s = .next (settle (answer f.slot st (.measurement {} false 0 0 0 0 0) d))
    | none =>
      exec (measurementCommand kind e) s = .next (settle offered) ∧
      (offered.slot f.slot).state =
        if kind ≠ .span ∧ (s.lane l).queue = [] ∧ (s.lane l).active = none ∧ (s.lane l).lentTo = none ∧
            (s.lane l).hold = false then .active else .pending

/-- R79 and R80: an ADD_BUFFER on rings 1 to 7 is refused with the status of the first test that fails; else its buffer
becomes current at position 0 when the target is starved, and is queued at the next position otherwise. A refusal
carries the target tag as read (log entry 10). -/
def Obligations.AddBufferFeedsALiveJob : Prop :=
  ∀ (e : AddBufferEntry) (f : FetchRecord) (s : State), s.Delivers f → f.ring ≠ 0 →
    let d := s.delivered f { kindCode := 0x10, tag := e.tag, request := some (.addBuffer e) }
    let found := lookupTag f.ring e.target d
    let target := match found with | .live t => d.slot t | _ => {}
    let tests :=
      [(e.tag != 0xFFFF, .badField),
       (decide (e.address.toNat % 32 = 0) && decide (1 ≤ e.capacity.toNat), .badBuffer),
       (found != .absent, .notFound),
       (found != .ended && (target.state == .pending || target.state == .active), .tooLate),
       (decide (target.queued.length < 4), .listFull)]
    let buffer : Buffer := { base := e.address, capacity := e.capacity }
    match firstRefusal tests with
    | some st => exec (.addBuffer e) s = .next (settle (answer f.slot st (.addBuffer e.target 0) d))
    | none => ∃ t, found = .live t ∧
      (target.current = none →
        exec (.addBuffer e) s = .next (settle (answer f.slot .ok (.addBuffer e.target 0)
          (d.modSlot t fun x => { x with current := some buffer, reserved := 0 })))) ∧
      (target.current ≠ none →
        exec (.addBuffer e) s = .next (settle (answer f.slot .ok
          (.addBuffer e.target (BitVec.ofNat 8 (target.queued.length + 1)))
          (d.modSlot t fun x => { x with queued := x.queued ++ [buffer] }))))

/-- R120, R147 and R148: a control request on rings 1 to 7 and a measurement entry or ADD_BUFFER on ring 0 are refused
with BAD_KIND, whatever else they hold; so is an undefined code on any ring; and a control request with tag FFFFh is
refused with BAD_FIELD. Nothing else changes. The contents are reported as 0, but for the tag FFFFh of no job in
HOLD_LANE and RELEASE_LANE (R123, R185); that the target tag of an ADD_BUFFER on ring 0 is 0 too is read from these
(log entry 10). -/
def Obligations.InvalidKindsAndTagsAreRefused : Prop :=
  (∀ (c : Instr) (entry : Entry) (zeros : FinalBody) (f : FetchRecord) (s : State), s.Delivers f →
    controlRequest c = some (entry, zeros) →
    (f.ring ≠ 0 → exec c s = .next (settle (answer f.slot .badKind zeros (s.delivered f entry)))) ∧
    (f.ring = 0 → entry.tag = 0xFFFF →
      exec c s = .next (settle (answer f.slot .badField zeros (s.delivered f entry))))) ∧
  (∀ (kind : MeasKind) (e : MeasEntry) (f : FetchRecord) (s : State), s.Delivers f → f.ring = 0 →
    exec (measurementCommand kind e) s = .next (settle (answer f.slot .badKind (.measurement {} false 0 0 0 0 0)
      (s.delivered f
        { kindCode := measurementCode kind, tag := e.tag, job := some { kind := kind, fields := e } })))) ∧
  (∀ (e : AddBufferEntry) (f : FetchRecord) (s : State), s.Delivers f → f.ring = 0 →
    exec (.addBuffer e) s = .next (settle (answer f.slot .badKind (.addBuffer 0 0)
      (s.delivered f { kindCode := 0x10, tag := e.tag, request := some (.addBuffer e) })))) ∧
  (∀ (code : Byte) (tag : Tag) (f : FetchRecord) (s : State), s.Delivers f → kindOfCode code = none →
    exec (.undefinedKindEntry code tag) s =
      .next (settle (answer f.slot .badKind .empty (s.delivered f { kindCode := code, tag := tag }))))

/-- R149, R150 and R151: OPEN_REPORT_RING opens a CLOSED ring 1 to 7 with the entry's values and its indices and
counters at 0; CLOSE_REPORT_RING brings a ring that no job ring uses to CLOSED, with no write of it in flight, and
reports its head and tail. Each is refused with the status of the first test that fails (a refused size, head and tail
are reported as 0, log entry 10). -/
def Obligations.ReportRingsOpenAndClose : Prop :=
  (∀ (e : OpenReportRingEntry) (f : FetchRecord) (s : State), s.Delivers f → f.ring = 0 → e.tag ≠ 0xFFFF →
    let d := s.delivered f { kindCode := 0x22, tag := e.tag, request := some (.openReportRing e) }
    let n : RingId := Fin.ofNat 8 e.id.toNat
    let tests :=
      [(decide (1 ≤ e.id.toNat) && decide (e.id.toNat ≤ 7), .badField),
       ((d.poster n).state == .closed, .ringExists),
       (decide (e.base.toNat % 32 = 0), .badField),
       (decide (2 ≤ e.size.toNat) && decide (e.size.toNat ≤ 4096), .badField),
       (decide (e.vector.toNat ≤ 15), .badField),
       (decide (1 ≤ e.coalescingCount.toNat) && decide (e.coalescingCount.toNat ≤ 64), .badField)]
    exec (.openReportRing e) s = .next (settle
      (match firstRefusal tests with
      | some st => answer f.slot st (.openReportRing e.id 0) d
      | none => answer f.slot .ok (.openReportRing e.id e.size)
        (d.modPoster n fun p =>
          { p with
            state := .open
            base := e.base
            size := e.size.toNat
            head := 0
            tail := 0
            sequence := 0
            vector := e.vector.setWidth 4
            coalescingCount := e.coalescingCount.toNat
            coalescingTime := e.coalescingTime.toNat
            unsignalled := 0
            timer := none
            pendingMessage := false })))) ∧
  (∀ (e : CloseRingEntry) (f : FetchRecord) (s : State), s.Delivers f → f.ring = 0 → e.tag ≠ 0xFFFF →
    let d := s.delivered f { kindCode := 0x23, tag := e.tag, request := some (.closeReportRing e) }
    let n : RingId := Fin.ofNat 8 e.id.toNat
    let tests :=
      [(decide (1 ≤ e.id.toNat) && decide (e.id.toNat ≤ 7), .badField),
       ((d.poster n).state != .closed, .noRing),
       (decide (∀ r : RingId, r = 0 ∨ (d.jobRing r).state = .closed ∨ (d.jobRing r).bound ≠ n), .inUse)]
    exec (.closeReportRing e) s = .next (settle
      (match firstRefusal tests with
      | some st => answer f.slot st (.closeReportRing e.id 0 0) d
      | none => answer f.slot .ok
        (.closeReportRing e.id (BitVec.ofNat 16 (s.poster n).head) (BitVec.ofNat 16 (s.poster n).tail))
        (d.modPoster n fun p =>
          { p with
            state := .closed, inFlight := none, timer := none, unsignalled := 0, pendingMessage := false }))))

/-- R152 and R153: OPEN_JOB_RING opens a CLOSED ring 1 to 7, bound to an OPEN report ring 1 to 7, with the entry's base,
size and weight, its indices and credit 0; else it is refused with the status of the first test that fails (a refused
size and bound ring are reported as 0, log entry 10). -/
def Obligations.JobRingsOpen : Prop :=
  ∀ (e : OpenJobRingEntry) (f : FetchRecord) (s : State), s.Delivers f → f.ring = 0 → e.tag ≠ 0xFFFF →
    let d := s.delivered f { kindCode := 0x20, tag := e.tag, request := some (.openJobRing e) }
    let r : RingId := Fin.ofNat 8 e.id.toNat
    let n : RingId := Fin.ofNat 8 e.reportRing.toNat
    let tests :=
      [(decide (1 ≤ e.id.toNat) && decide (e.id.toNat ≤ 7), .badField),
       ((d.jobRing r).state == .closed, .ringExists),
       (decide (e.base.toNat % 64 = 0), .badField),
       (decide (2 ≤ e.size.toNat) && decide (e.size.toNat ≤ 4096), .badField),
       (decide (1 ≤ e.reportRing.toNat) && decide (e.reportRing.toNat ≤ 7), .badField),
       (decide (1 ≤ e.weight.toNat) && decide (e.weight.toNat ≤ 16), .badField),
       ((d.poster n).state == .open, .noRing)]
    exec (.openJobRing e) s = .next (settle
      (match firstRefusal tests with
      | some st => answer f.slot st (.openJobRing e.id 0 0) d
      | none => answer f.slot .ok (.openJobRing e.id e.reportRing e.size)
        (d.modJobRing r fun q =>
          { q with
            state := .open
            base := e.base
            size := e.size.toNat
            head := 0
            tail := 0
            bound := n
            weight := e.weight.toNat
            credit := 0 })))

/-- R154 to R156: a CLOSE_JOB_RING of an OPEN or FAULTED ring 1 to 7 makes the ring CLOSING. Each PENDING job of it
leaves its queue, and then each ACTIVE one its lanes, and ends with RING_CLOSED unless it has an end status: DRAINING,
and POSTING at once with nothing outstanding. The ring's claims are released, every hold flag stays, and each lane
whose state has changed acts once. The close then waits for the ring's slots, or completes at once when there are none:
the ring CLOSED, the FINAL with the jobs ended, 0 waited and the ring's head. Else it is refused with the status of the
first test that fails. What becomes of each job is said besides of states in which the jobs stand where their slots
say. The order among slots and lanes is that of their numbers (the model's choice, log entry 13). -/
def Obligations.ClosingAJobRingEndsItsJobs : Prop :=
  ∀ (e : CloseRingEntry) (f : FetchRecord) (s : State), s.Delivers f → f.ring = 0 → e.tag ≠ 0xFFFF →
    let d := s.delivered f { kindCode := 0x21, tag := e.tag, request := some (.closeJobRing e) }
    let r : RingId := Fin.ofNat 8 e.id.toNat
    let tests :=
      [(decide (1 ≤ e.id.toNat) && decide (e.id.toNat ≤ 7), .badField),
       ((d.jobRing r).state == .open || (d.jobRing r).state == .faulted, .noRing)]
    let closing := d.modJobRing r fun q => { q with state := .closing }
    let ends := fun (u : State) (j : SlotId) => (u.ended j .ringClosed).drained j
    let unqueued := (List.finRange 64).foldl (fun (u : State) (j : SlotId) =>
      match (u.slot j).stagingLane with
      | some l => if (u.slot j).state = .pending ∧ (u.slot j).ring = r then ends (u.leftQueue l j) j else u
      | none => u) closing
    let idle := (List.finRange 64).foldl (fun (u : State) (j : SlotId) =>
      match (u.slot j).stagingLane with
      | some l => if (u.slot j).state = .active ∧ (u.slot j).ring = r then ends (u.leftLanes l j) j else u
      | none => u) unqueued
    let released : State :=
      { idle with
        lanes := Vector.ofFn fun l : Fin 16 =>
          { idle.lane l with owner := if (idle.lane l).owner = some r then none else (idle.lane l).owner } }
    let u := ((List.finRange 16).filter fun l => decide (closing.lane l ≠ released.lane l)).foldl
      (fun (u : State) (l : LaneId) => laneAct l u) released
    let ended := (List.finRange 64).countP fun j =>
      (d.slot j).ring == r && ((d.slot j).state == .pending || (d.slot j).state == .active)
    let owed := (List.finRange 64).countP fun j =>
      (u.slot j).ring == r &&
        ((u.slot j).state == .pending || (u.slot j).state == .active || (u.slot j).state == .draining ||
          (u.slot j).state == .posting)
    match firstRefusal tests with
    | some st => exec (.closeJobRing e) s = .next (settle (answer f.slot st (.closeJobRing e.id 0 0 0) d))
    | none =>
      ((d.jobRing r).closer = none → (u.jobRing r).state = .closing) ∧
      (∀ l : LaneId, (u.lane l).hold = (s.lane l).hold ∧
        (u.lane l).owner = if (s.lane l).owner = some r then none else (s.lane l).owner) ∧
      (s.JobsPlaced → ∀ j : SlotId, (d.slot j).ring = r → (d.slot j).state = .pending ∨ (d.slot j).state = .active →
        (u.slot j).endStatus = some ((d.slot j).endStatus.getD .ringClosed) ∧
        ((d.slot j).outstanding ≠ 0 → (u.slot j).state = .draining) ∧
        ((d.slot j).outstanding = 0 → (u.slot j).state = .posting ∨ (u.slot j).state = .free) ∧
        ∀ l : LaneId, j ∉ (u.lane l).queue ∧ (u.lane l).active ≠ some j) ∧
      (owed = 0 → (d.slot f.slot).ring = 0 →
        exec (.closeJobRing e) s = .next (settle
          (((u.modJobRing r fun q => { q with state := .closed, closer := none }).modSlot f.slot fun x =>
            { x with
              state := .posting
              endStatus := some .ok
              wait := .none
              reports := x.reports ++
                [{ kindCode := x.kindCode
                   tag := x.tag
                   ring := 0
                   body := .final .ok
                    (.closeJobRing e.id (BitVec.ofNat 8 ended) 0 (BitVec.ofNat 16 (u.jobRing r).head)) }] }).modPoster 0
            fun p => { p with queue := p.queue ++ [f.slot] }))) ∧
      (owed ≠ 0 →
        exec (.closeJobRing e) s = .next (settle
          ((u.modSlot f.slot fun x => { x with state := .waiting, wait := .close r owed ended owed }).modJobRing r
            fun q => { q with closer := some f.slot })))

/-- R158, R159 and R160: SET_LANE configures a lane with no active job that is not lent, and resets its filter from the
present conditioned level without an arrival; CLAIM_LANE sets or clears the owner ring of a lane. Each is refused with
the status of the first test that fails. A lane is lent to a ring's SPAN also while the grant for one that is gone has
not been returned (R61; the loan names the ring, log entry 22). A claim for the present owner passes (log entry 9), and
a refused one reports the owners as 0 (log entry 10). -/
def Obligations.LanesAreConfiguredAndClaimed : Prop :=
  (∀ (e : SetLaneEntry) (f : FetchRecord) (s : State), s.Delivers f → f.ring = 0 → e.tag ≠ 0xFFFF →
    let d := s.delivered f { kindCode := 0x24, tag := e.tag, request := some (.setLane e) }
    let l : LaneId := Fin.ofNat 16 e.lane.toNat
    let tests :=
      [(decide (e.lane.toNat ≤ 15), .badLane),
       (decide (e.invert.toNat ≤ 1), .badField),
       ((d.lane l).active == none && (d.lane l).lentTo == none, .laneBusy)]
    exec (.setLane e) s = .next (settle
      (match firstRefusal tests with
      | some st => answer f.slot st (.setLane e.lane e.filter e.invert) d
      | none => answer f.slot .ok (.setLane e.lane e.filter e.invert)
        (d.modLane l fun x =>
          { x with
            filterWidth := e.filter
            invert := e.invert == 1
            filtered := s.line.getLsbD l.val ^^ (e.invert == 1)
            candidate := none
            formed := [] })))) ∧
  (∀ (e : ClaimLaneEntry) (f : FetchRecord) (s : State), s.Delivers f → f.ring = 0 → e.tag ≠ 0xFFFF →
    let d := s.delivered f { kindCode := 0x25, tag := e.tag, request := some (.claimLane e) }
    let l : LaneId := Fin.ofNat 16 e.lane.toNat
    let k : RingId := Fin.ofNat 8 e.ring.toNat
    let x := d.lane l
    let users := (x.queue ++ x.active.toList).map (fun j => (d.slot j).ring) ++
      (x.lentTo.toList ++ x.place.toList).map Loan.ring
    let tests :=
      [(decide (e.lane.toNat ≤ 15), .badLane),
       (decide (e.ring.toNat ≤ 7), .badField),
       (e.ring == 0 || (d.jobRing k).state == .open || (d.jobRing k).state == .faulted, .noRing),
       (e.ring == 0 || x.owner == none || x.owner == some k, .inUse),
       (e.ring == 0 || x.owner == some k || users.all fun ring => ring == k, .inUse)]
    exec (.claimLane e) s = .next (settle
      (match firstRefusal tests with
      | some st => answer f.slot st (.claimLane e.lane 0 0) d
      | none => answer f.slot .ok (.claimLane e.lane (ownerCode x.owner) e.ring)
        (d.modLane l fun x => { x with owner := if e.ring = 0 then none else some k }))))

/-- R90 to R93: a HOLD_LANE of a lane that is not held sets its flag, makes its context HELD with nothing pending,
makes a waiting SPAN head IDLE, and marks the newest record on each lane it waits for; a lent lane's hold also holds
the SPAN at its primary, with the partner-held mark, which a SPAN that still waits for the grant takes at the head of
its queue. That SPAN is known by its slot, its phase and its partner, and not by the loan number (log entry 11). It
completes at once when it set no mark, and else waits for its marks. The job found is the one active on the lane, or
the SPAN the lane is lent to, though it be gone from its primary (log entries 15 and 22). It is refused with the status
of the first test that fails. -/
def Obligations.HoldingALaneHoldsItsJobs : Prop :=
  ∀ (e : LaneEntry) (f : FetchRecord) (s : State), s.Delivers f → f.ring = 0 → e.tag ≠ 0xFFFF →
    let d := s.delivered f { kindCode := 0x26, tag := e.tag, request := some (.holdLane e) }
    let l : LaneId := Fin.ofNat 16 e.lane.toNat
    let x := d.lane l
    let tests := [(decide (e.lane.toNat ≤ 15), .badLane), (!x.hold, .alreadyHeld)]
    let newest := fun y : Lane => (y.fifo.getLast?).or y.writeSlot
    let marks := fun y : Lane => (newest y).toList.map fun r =>
      ({ holder := f.slot, recordSlot := r.slot, recordIndex := r.index } : DrainMark)
    let heldContext := fun c : Context => { c with phase := .held, pending := none, alignment := [] }
    let done := fun (ring : Byte) (tag : Tag) (abandoned : Bool) (n : Nat) (u : State) =>
      if n = 0 then answer f.slot .ok (.holdLane e.lane ring tag abandoned) u
      else u.modSlot f.slot fun y => { y with state := .waiting, wait := .hold n e.lane ring tag abandoned }
    match firstRefusal tests with
    | some st => exec (.holdLane e) s = .next (settle (answer f.slot st (.holdLane e.lane 0 0xFFFF false) d))
    | none =>
      (x.lentTo = none →
        let withdrawn : State :=
          match x.queue with
          | [] => d
          | h :: _ =>
            if x.loanPhase = .asked then
              { d with
                loanMsgs := d.loanMsgs ++
                  [{ src := l, dst := partnerOf (jobOf d h).fields, kind := .withdraw
                     loan :=
                       { primary := l, slot := h, number := x.loanNumber
                         ring := (d.slot h).ring, tag := (d.slot h).tag } }] }
            else d
        let u := withdrawn.modLane l fun y =>
          { y with
            hold := true
            ctx := y.ctx.map heldContext
            loanPhase := .idle
            partnerMark := false
            drainMarks := y.drainMarks ++ marks y }
        exec (.holdLane e) s = .next (settle
          (match x.active with
          | none => done 0 0xFFFF false (marks x).length u
          | some j =>
            done (BitVec.ofNat 8 (d.slot j).ring.val) (d.slot j).tag
              (x.ctx.any fun c => c.phase == .measuring || c.phase == .window) (marks x).length u))) ∧
      (∀ (loan : Loan) (job : Job) (c : Context), x.lentTo = some loan → x.active = none → x.ctx = none →
        x.loanPhase = .idle → loan.primary ≠ l →
        (d.lane loan.primary).active = some loan.slot → (d.slot loan.slot).job = some job → job.kind = .span →
        Fin.ofNat 16 job.fields.partner.toNat = l → (d.lane loan.primary).ctx = some c →
        let u := (d.modLane l fun y =>
          { y with hold := true, partnerMark := false, drainMarks := y.drainMarks ++ marks y }).modLane loan.primary
          fun y =>
            { y with
              ctx := some { heldContext c with partnerHeld := true }
              drainMarks := y.drainMarks ++ marks y }
        exec (.holdLane e) s = .next (settle
          (done (BitVec.ofNat 8 loan.ring.val) loan.tag
            (c.phase == .measuring || c.phase == .window)
            ((marks x).length + (marks (d.lane loan.primary)).length) u))) ∧
      (∀ loan : Loan, x.lentTo = some loan → x.active = none → x.ctx = none → x.loanPhase = .idle → loan.primary ≠ l →
        let y := d.lane loan.primary
        let borrows := fun j : SlotId =>
          (d.slot j).job.any fun job => job.kind == .span && Fin.ofNat 16 job.fields.partner.toNat == l
        let asks := y.queue.head? == some loan.slot && y.loanPhase == .asked && borrows loan.slot
        let u := (d.modLane l fun z =>
          { z with hold := true, partnerMark := false, drainMarks := z.drainMarks ++ marks z }).modLane loan.primary
          fun z => { z with partnerMark := z.partnerMark || asks, drainMarks := z.drainMarks ++ marks z }
        (∀ j ∈ y.active, borrows j = false) →
        exec (.holdLane e) s = .next (settle
          (done (BitVec.ofNat 8 loan.ring.val) loan.tag false ((marks x).length + (marks y).length) u)))

/-- R95 and R96: a RELEASE_LANE of a held lane clears its flag. Its HELD job resumes afresh from the release, unless
its other lane is held; a lent lane's release clears the partner-held mark, also of a SPAN that still waits, and
resumes the SPAN when the primary's flag is clear; an idle lane acts. A SPAN that still waits is known by its slot, its
phase and its partner, and not by the loan number (log entry 11). It is refused with the status of the first test that
fails. -/
def Obligations.ReleasingALaneResumesItsJobs : Prop :=
  ∀ (e : LaneEntry) (f : FetchRecord) (s : State), s.Delivers f → f.ring = 0 → e.tag ≠ 0xFFFF →
    let d := s.delivered f { kindCode := 0x27, tag := e.tag, request := some (.releaseLane e) }
    let l : LaneId := Fin.ofNat 16 e.lane.toNat
    let x := d.lane l
    let tests := [(decide (e.lane.toNat ≤ 15), .badLane), (x.hold, .notHeld)]
    let cleared := d.modLane l fun y => { y with hold := false }
    let resumedBy := fun (j : SlotId) (u : State) =>
      exec (.releaseLane e) s = .next (settle
        (answer f.slot .ok (.releaseLane e.lane (BitVec.ofNat 8 (d.slot j).ring.val) (d.slot j).tag) u))
    let noneResumed := fun u : State =>
      exec (.releaseLane e) s = .next (settle (answer f.slot .ok (.releaseLane e.lane 0 0xFFFF) u))
    match firstRefusal tests with
    | some st => exec (.releaseLane e) s = .next (settle (answer f.slot st (.releaseLane e.lane 0 0xFFFF) d))
    | none =>
      (x.active = none → x.lentTo = none → noneResumed (laneAct l cleared)) ∧
      (∀ (j : SlotId) (job : Job) (c : Context), x.active = some j → x.lentTo = none → x.ctx = some c →
        (d.slot j).job = some job →
        (c.phase = .held → c.partnerHeld = false →
          resumedBy j (cleared.modLane l fun y =>
            { y with ctx := some (resumedContext job (settleInterval d l job) s.timebase c) })) ∧
        (c.phase ≠ .held ∨ c.partnerHeld = true → noneResumed cleared)) ∧
      (∀ (loan : Loan) (job : Job) (c : Context), x.active = none → x.lentTo = some loan → loan.primary ≠ l →
        (d.lane loan.primary).active = some loan.slot → (d.slot loan.slot).job = some job → job.kind = .span →
        Fin.ofNat 16 job.fields.partner.toNat = l → (d.lane loan.primary).ctx = some c →
        let c' := { c with partnerHeld := false }
        (c.phase = .held → (d.lane loan.primary).hold = false →
          resumedBy loan.slot (cleared.modLane loan.primary fun y =>
            { y with ctx := some (resumedContext job (settleInterval d loan.primary job) s.timebase c') })) ∧
        (c.phase ≠ .held ∨ (d.lane loan.primary).hold = true →
          noneResumed (cleared.modLane loan.primary fun y => { y with ctx := some c' }))) ∧
      (∀ loan : Loan, x.active = none → x.lentTo = some loan → loan.primary ≠ l →
        let y := d.lane loan.primary
        let borrows := fun j : SlotId =>
          (d.slot j).job.any fun job => job.kind == .span && Fin.ofNat 16 job.fields.partner.toNat == l
        let asks := y.queue.head? == some loan.slot && y.loanPhase == .asked && borrows loan.slot
        (∀ j ∈ y.active, borrows j = false) →
          noneResumed (cleared.modLane loan.primary fun z => { z with partnerMark := z.partnerMark && !asks }))

/-- R97 to R99 and R102: a CANCEL_JOB that finds its job PENDING or ACTIVE ends it with CANCELLED, and waits for it to
enter POSTING; on an ended or DRAINING job it is refused with TOO_LATE, and with NOT_FOUND when there is none. A
refusal carries the state found too (log entry 8). A PEEK_JOB reports a live job's state, counters and queued buffers
and changes nothing at it. -/
def Obligations.JobsAreCancelledAndInspected : Prop :=
  ∀ (e : JobNameEntry) (f : FetchRecord) (s : State), s.Delivers f → f.ring = 0 → e.tag ≠ 0xFFFF →
    let d := s.delivered f { kindCode := 0x28, tag := e.tag, request := some (.cancelJob e) }
    let p := s.delivered f { kindCode := 0x29, tag := e.tag, request := some (.peekJob e) }
    (lookupByte e.ring e.target d = .absent →
      exec (.cancelJob e) s = .next (settle (answer f.slot .notFound (.cancelJob e.ring 0 e.target) d))) ∧
    (lookupByte e.ring e.target d = .ended →
      exec (.cancelJob e) s = .next (settle (answer f.slot .tooLate (.cancelJob e.ring 6 e.target) d))) ∧
    (∀ (t : SlotId) (l : LaneId), lookupByte e.ring e.target d = .live t → (d.slot t).stagingLane = some l →
      let waits := fun found : SlotState =>
        (d.modSlot f.slot fun x => { x with state := .waiting, wait := .cancel e.ring e.target found }).modSlot t
          fun x => { x with cancelWaiter := some f.slot }
      ((d.slot t).state = .draining →
        exec (.cancelJob e) s = .next (settle (answer f.slot .tooLate (.cancelJob e.ring 4 e.target) d))) ∧
      ((d.slot t).state = .pending →
        exec (.cancelJob e) s = .next (settle (endPending l t .cancelled (waits .pending)))) ∧
      ((d.slot t).state = .active →
        exec (.cancelJob e) s = .next (settle (endActive l t .cancelled (waits .active))))) ∧
    ((∀ t, lookupByte e.ring e.target p ≠ .live t) →
      exec (.peekJob e) s = .next (settle (answer f.slot .notFound (.peekJob e.ring 0 e.target 0 0 0 0) p))) ∧
    (∀ t, lookupByte e.ring e.target p = .live t →
      exec (.peekJob e) s = .next (settle (answer f.slot .ok
        (.peekJob e.ring (slotStateCode (p.slot t).state) e.target (BitVec.ofNat 8 (p.slot t).queued.length)
          (p.slot t).produced (p.slot t).written (p.slot t).lost) p)))

/-- R117: when the read in flight faults, its ring becomes FAULTED with its head where it was, its slot FREE, and a
FETCH_FAULT with ring and index is raised, or counted lost when the event list is full. The fetch decision of the same
event falls to another ring. -/
def Obligations.AFetchFaultMakesTheRingFaulted : Prop :=
  ∀ (f : FetchRecord) (s : State), s.Delivers f →
    let u := State.raised
      (({ s with accesses := s.accesses.erase .fetch, fetch := none }.modJobRing f.ring
        fun q => { q with state := .faulted }).modSlot f.slot fun x => { x with state := .free, reports := [] })
      (.fetchFault f.ring f.index)
    exec .fetchReadFault s = .next (settle u) ∧ (settle u).fetch.map FetchRecord.ring ≠ some f.ring

/-- R162 and R180: outside RUNNING the completion or fault of an access changes nothing but the outstanding accesses,
and in STOPPING it ends the stop when it is the last; one of an access that is not outstanding is no event (log entry
4). -/
def Obligations.CompletionsOutsideRunningAreOnlyFinished : Prop :=
  ∀ (c : Instr) (a : Access) (s : State), finishedAccess c = some a →
    (a ∉ s.accesses → exec c s = .next s) ∧
    (a ∈ s.accesses → s.ctl ≠ .running →
      let u := { s with accesses := s.accesses.erase a }
      exec c s = .next (if s.ctl = .stopping ∧ u.accesses = [] then u.stopEnded else u))

/-! ### Writes to host memory -/

/-- R77, R78 and R133: when the write of a lane's record completes, the slot's `written` and landed counts rise and its
`outstanding` falls. A buffer whose places have all landed is retired: it leaves its list, and a PROGRESS is created for
it, or with 3 PROGRESS reports waiting it is merged into the newest of them. Then the record's drain marks are cleared,
and last a DRAINING slot with nothing outstanding enters POSTING; that the marks stand between the two is the model's
choice (log entry 13), and so is what follows a retired buffer that is still current, which no run reaches (log entry
24). -/
def Obligations.ALandedRecordIsCounted : Prop :=
  ∀ (l : LaneId) (r : ResultRecord) (s : State), s.ctl = .running → Access.record l ∈ s.accesses →
    (s.lane l).writeSlot = some r → (s.slot r.slot).state = .active ∨ (s.slot r.slot).state = .draining →
    let x := s.slot r.slot
    let taken :=
      { s with accesses := s.accesses.erase (.record l) }.modLane l fun y => { y with writeSlot := none }
    let counted : Slot :=
      { x with written := x.written + 1, landed := x.landed + 1, outstanding := x.outstanding - 1 }
    let retired : Slot :=
      { counted with
        landed := 0
        buffersRetired := if x.buffersRetired.toNat + 1 < 2 ^ 32 then x.buffersRetired + 1 else x.buffersRetired }
    let dropped : Slot :=
      if x.landing = [] then { retired with current := x.queued.head?, queued := x.queued.tail, reserved := 0 }
      else { retired with landing := x.landing.tail }
    let leaves := fun u : State =>
      exec (.recordWriteCompletion l) s = .next (settle ((clearMarks l [r] u).drained r.slot))
    let waiting := x.reports.countP Report.isWaitingProgress
    ((∀ b ∈ (x.landing ++ x.current.toList).head?, x.landed + 1 ≠ b.capacity) →
      leaves (taken.setSlot r.slot counted)) ∧
    (∀ b, (x.landing ++ x.current.toList).head? = some b → x.landed + 1 = b.capacity →
      (waiting < 3 →
        leaves (createReport r.slot (.progress b.base (b.capacity.setWidth 32) 1) (taken.setSlot r.slot dropped))) ∧
      (∀ (before behind : List Report) (p : Report) (address : Addr) (records merged : BitVec 32), 3 ≤ waiting →
        x.reports = before ++ p :: behind → p.body = .progress address records merged → p.inFlight = false →
        (∀ q ∈ behind, q.isWaitingProgress = false) →
        let sum := records.toNat + b.capacity.toNat
        let newest : Report :=
          { p with
            body := .progress b.base
              (if sum < 2 ^ 32 then records + b.capacity.setWidth 32 else 0xFFFFFFFF)
              (if merged.toNat + 1 < 2 ^ 32 then merged + 1 else merged) }
        leaves (taken.setSlot r.slot { dropped with reports := before ++ newest :: behind })))

/-- R93: in the event in which records leave a lane, the drain marks that name one of them are cleared, in order; each
lowers the count of its HOLD_LANE, and at 0 that request answers OK with the contents it took. A mark whose holder no
longer waits for a hold has no further effect. The other marks stay, and nothing else changes. The order of the marks
is that in which they were set (the model's choice, log entry 13). -/
def Obligations.DrainMarksCompleteTheirHold : Prop :=
  ∀ (l : LaneId) (gone : List ResultRecord) (s : State),
    let hit := fun m : DrainMark => gone.any fun r => decide (r.slot = m.recordSlot ∧ r.index = m.recordIndex)
    let kept := s.modLane l fun x => { x with drainMarks := x.drainMarks.filter fun m => !hit m }
    let lowered := fun (m : DrainMark) (u v : State) =>
      match (u.slot m.holder).wait with
      | .hold count lane ring tag abandoned =>
        (1 < count →
          v = u.modSlot m.holder fun x => { x with wait := .hold (count - 1) lane ring tag abandoned }) ∧
        (count ≤ 1 → v = answer m.holder .ok (.holdLane lane ring tag abandoned) u)
      | _ => v = u
    ∃ chain : List State,
      chain.head? = some kept ∧ chain.getLast? = some (clearMarks l gone s) ∧
      chain.length = ((s.lane l).drainMarks.filter hit).length + 1 ∧
      ∀ (i : Nat) (m : DrainMark) (u v : State), ((s.lane l).drainMarks.filter hit)[i]? = some m →
        chain[i]? = some u → chain[i + 1]? = some v → lowered m u v

/-- R82: when the write of a lane's record faults, it and every staged record of its job are counted lost and leave the
lane, the slot gives them up from `outstanding` and keeps a write-fault mark, and the drain marks that name them are
cleared. An ACTIVE job ends with WRITE_FAULT; a DRAINING one with nothing outstanding enters POSTING; both after the
marks (the model's choice, log entry 13). The count of places reserved stays (the model's choice, log entry 21). -/
def Obligations.AFaultedRecordEndsItsJob : Prop :=
  ∀ (l : LaneId) (r : ResultRecord) (s : State), s.ctl = .running → Access.record l ∈ s.accesses →
    (s.lane l).writeSlot = some r → (s.slot r.slot).state = .active ∨ (s.slot r.slot).state = .draining →
    let x := s.slot r.slot
    let gone := r :: (s.lane l).fifo.filter fun q => decide (q.slot = r.slot)
    let taken :=
      ({ s with accesses := s.accesses.erase (.record l) }.modLane l fun y =>
        { y with writeSlot := none, fifo := y.fifo.filter fun q => decide (q.slot ≠ r.slot) }).setSlot r.slot
          { x with
            lost := if x.lost.toNat + gone.length < 2 ^ 32 then x.lost + BitVec.ofNat 32 gone.length else 0xFFFFFFFF
            outstanding := x.outstanding - BitVec.ofNat 8 gone.length
            writeFaultMark := true }
    let u := clearMarks l gone taken
    exec (.recordWriteFault l) s = .next (settle
      (if (u.slot r.slot).state = .active then endActive l r.slot .writeFault u else u.drained r.slot))

/-- R136 and R142: when a report write completes, the tail and the sequence counter advance, the report leaves (an event
from the event list, a FINAL freeing its slot), and the unsignalled count rises: at the coalescing count a message is
requested and the count and timer are cleared; at 1 with a coalescing time the timer starts. -/
def Obligations.APostedReportAdvancesTheRing : Prop :=
  ∀ (n : RingId) (s : State), s.ctl = .running → Access.report n ∈ s.accesses →
    let advanced :=
      { s with accesses := s.accesses.erase (.report n) }.modPoster n fun p =>
        { p with inFlight := none, tail := (p.tail + 1) % p.size, sequence := p.sequence + 1 }
    let counts := fun u : State =>
      let p := u.poster n
      let restarted := { p with unsignalled := 0, timer := none }
      exec (.reportWriteCompletion n) s = .next (settle
        (if p.unsignalled + 1 = p.coalescingCount then
          if u.interruptEnable then
            { u.setPoster n restarted with
              messages := if p.vector ∈ u.messages then u.messages else u.messages ++ [p.vector] }
          else u.setPoster n { restarted with pendingMessage := true }
        else if p.unsignalled = 0 ∧ p.coalescingTime ≠ 0 then
          u.setPoster n
            { p with unsignalled := 1, timer := some (s.timebase + BitVec.ofNat 48 (p.coalescingTime * 10000)) }
        else u.setPoster n { p with unsignalled := p.unsignalled + 1 }))
    ((s.poster n).inFlight = some .event → counts { advanced with events := s.events.tail }) ∧
    (∀ (i j : SlotId) (q : List SlotId) (r : Report) (others : List Report),
      (s.poster n).inFlight = some (.slot i) → (s.poster n).queue = j :: q → (s.slot j).reports = r :: others →
      let left := (advanced.modPoster n fun p => { p with queue := q }).modSlot j fun x => { x with reports := others }
      counts (if r.isFinal then freeSlot j left else left))

/-- R165, R146 and R67: when the report write of a ring 1 to 7 faults, the ring becomes FAULTED with its tail and
counts where they were, and its whole queue is discarded: a slot loses as many of its reports as it has places in the
queue, and becomes FREE with a discarded FINAL. REPORT_FAULT names the ring and its tail. (A slot that waits for a
close may be answered besides, `AFreedSlotCountsTowardTheClose`.) R167: when the report write of ring 0 faults, the
controller enters FATAL, with cause FINAL_WRITE or EVENT_WRITE by the report that was in flight, and every block keeps
its state. -/
def Obligations.ReportWriteFaults : Prop :=
  (∀ (source : ReportSource) (s : State), s.ctl = .running → Access.report 0 ∈ s.accesses →
    (s.poster 0).inFlight = some source →
    exec .ring0ReportWriteFault s = .next
      { s with
        accesses := s.accesses.erase (.report 0)
        ctl := .fatal
        fatalCause := match source with | .event => .eventWrite | .slot _ => .finalWrite }) ∧
  ∀ (n : RingId) (s : State), s.ctl = .running → Access.report n ∈ s.accesses → n ≠ 0 →
    (s.poster n).inFlight ≠ none →
    (∀ (r : RingId) (c : SlotId), (s.jobRing r).closer = some c → (s.slot c).ring = 0) →
    ∃ t : State,
      exec (.reportWriteFault n) s = .next (settle (t.raised (.reportFault n (s.poster n).tail))) ∧
      t = { s with
        accesses := s.accesses.erase (.report n)
        slots := t.slots
        jobRings := t.jobRings
        posters := t.posters } ∧
      t.poster n = { s.poster n with state := .faulted, inFlight := none, queue := [] } ∧
      (∀ m : RingId, m ≠ 0 → m ≠ n → t.poster m = s.poster m) ∧
      ∀ j : SlotId, (s.slot j).wait = .none →
        let gone := (s.slot j).reports.take ((s.poster n).queue.count j)
        let kept := (s.slot j).reports.drop ((s.poster n).queue.count j)
        ((∀ r ∈ gone, r.isFinal = false) → t.slot j = { s.slot j with reports := kept }) ∧
        ((∃ r ∈ gone, r.isFinal = true) → t.slot j = { s.slot j with state := .free, reports := [] })

/-- R141 and R180: when the link accepts the granted write, the port is free; a message is thereby finished. In RUNNING
the next grant decision follows, and in STOPPING the stop ends when nothing is outstanding. Without a granted write
nothing happens. -/
def Obligations.AcceptanceFreesThePort : Prop :=
  ∀ s : State,
    (s.port.busy = none → exec .writeAcceptance s = .next s) ∧
    (∀ w, s.port.busy = some w →
      let u :=
        { s with
          port := { s.port with busy := none }
          accesses := match w with | .message _ => s.accesses.erase .message | _ => s.accesses }
      exec .writeAcceptance s = .next
        (if s.ctl = .running then settle u
        else if s.ctl = .stopping ∧ u.accesses = [] then u.stopEnded else u))

/-! ### Partner loans -/

/-- R56 and R58: a partner takes a loan request: it grants when its place is empty and it is idle, not lent, not held
and has no waiting job; it notes the request in an empty place, or over one of the same primary (read from R56 and R60,
log entry 12); and it defers any other. The primary takes a grant: its SPAN head in ASKED with the grant's number
activates, HELD when the partner was held meanwhile; any other grant is returned. -/
def Obligations.LoanRequestsAndGrants : Prop :=
  ∀ (m : LoanMsg) (before behind : List LoanMsg) (s : State), s.OldestLoan m before behind →
    let d := { s with loanMsgs := before ++ behind }
    let x := s.lane m.dst
    let sends := fun (kind : LoanMsgKind) (dst : LaneId) (u : State) =>
      { u with loanMsgs := before ++ behind ++ [{ src := m.dst, dst := dst, kind := kind, loan := m.loan }] }
    let idle := x.active = none ∧ x.lentTo = none ∧ x.hold = false ∧ x.queue = []
    let takes := fun u : State => exec (loanCommand m) s = .next u
    (m.kind = .request →
      (x.place = none → idle →
        takes (sends .grant m.loan.primary (d.modLane m.dst fun y => { y with lentTo := some m.loan }))) ∧
      (x.place = none → ¬ idle → takes (d.modLane m.dst fun y => { y with place := some m.loan })) ∧
      (∀ other, x.place = some other →
        (other.primary = m.loan.primary → takes (d.modLane m.dst fun y => { y with place := some m.loan })) ∧
        (other.primary ≠ m.loan.primary → takes (sends .defer m.loan.primary d)))) ∧
    (m.kind = .grant →
      let h := m.loan.slot
      let asks := x.loanPhase = .asked ∧ x.loanNumber = m.loan.number
      (∀ (rest : List SlotId) (job : Job), asks → x.queue = h :: rest → (s.slot h).job = some job → job.kind = .span →
        takes (d.activated m.dst h rest job
          { phase := if x.partnerMark then .held else .armed
            acceptFrom := s.timebase
            partnerHeld := x.partnerMark })) ∧
      (¬ asks ∨ x.queue.head? ≠ some h ∨ (∀ job ∈ (s.slot h).job, job.kind ≠ .span) →
        takes (sends .return m.src d)))

/-- R59, R60 and R61: a defer turns the ASKED head it names to DEFERRED; a withdraw empties the place that holds its
request and tells every other lane; a return clears the lent-to it names, and the lane acts; a place-open notice makes
a DEFERRED head for that partner ask again, with a new number. Each changes nothing when it does not match; and a
command whose message is not the oldest on its way is no event (R54; log entry 4). The notices to different lanes are
sent in the order of the lanes (the model's choice, log entry 13). -/
def Obligations.LoanDefersWithdrawsReturnsAndNotices : Prop :=
  (∀ (m : LoanMsg) (before behind : List LoanMsg) (s : State), s.OldestLoan m before behind →
    let d := { s with loanMsgs := before ++ behind }
    let x := s.lane m.dst
    let takes := fun u : State => exec (loanCommand m) s = .next u
    let named := fun loan : Loan =>
      decide (loan.primary = m.loan.primary ∧ loan.slot = m.loan.slot ∧ loan.number = m.loan.number)
    (m.kind = .defer →
      takes (if x.queue.head? = some m.loan.slot ∧ ((s.slot m.loan.slot).job.map Job.kind) = some .span ∧
            x.loanPhase = .asked ∧ x.loanNumber = m.loan.number then
          d.modLane m.dst fun y => { y with loanPhase := .deferred }
        else d)) ∧
    (m.kind = .withdraw →
      takes (if x.place.any named then
          { d.modLane m.dst (fun y => { y with place := none }) with
            loanMsgs := before ++ behind ++ placeOpenNotices m.dst m.loan }
        else d)) ∧
    (m.kind = .return →
      takes (if x.lentTo.any named then laneAct m.dst (d.modLane m.dst fun y => { y with lentTo := none })
        else d)) ∧
    (m.kind = .placeOpen →
      let asksAgain := fun (h : SlotId) (job : Job) =>
        (s.slot h).job = some job ∧ job.kind = .span ∧ Fin.ofNat 16 job.fields.partner.toNat = m.src ∧
          x.loanPhase = .deferred ∧ x.active = none ∧ x.lentTo = none ∧ x.hold = false
      (∀ (h : SlotId) (rest : List SlotId) (job : Job), x.queue = h :: rest → asksAgain h job →
        takes
          { d.modLane m.dst (fun y => { y with loanPhase := .asked, loanNumber := x.loanNumber + 1 }) with
            loanMsgs := before ++ behind ++
              [{ src := m.dst
                 dst := m.src
                 kind := .request
                 loan :=
                   { primary := m.dst, slot := h, number := x.loanNumber + 1
                     ring := (s.slot h).ring, tag := (s.slot h).tag } }] }) ∧
      ((∀ h ∈ x.queue.head?, ∀ job, ¬ asksAgain h job) → takes d))) ∧
  (∀ (m : LoanMsg) (s : State),
    (s.ctl ≠ .running ∨
      (s.loanMsgs.find? fun q => decide (q.src = m.src ∧ q.dst = m.dst)).map LoanMsg.kind ≠ some m.kind) →
    exec (loanCommand m) s = .next s)

/-! ### The register window and the controller -/

/-- R107, R108, R128 and R129: in RUNNING a JOB_TAIL write below the size of an OPEN ring is its new tail, and an
RPT_HEAD write from the present head to the tail of an OPEN ring, and one place further while a write is in flight, its
new head; any other raises INDEX_ERROR with the word as written, and changes no ring. Outside RUNNING both are ignored. -/
def Obligations.IndexWritesMoveTailAndHead : Prop :=
  ∀ (n : RingId) (v : BitVec 32) (s : State),
    let i := v.toNat % 4096
    let q := s.jobRing n
    let p := s.poster n
    let flying := if p.inFlight = none then 0 else 1
    let onPlace := p.inFlight ≠ none ∧ p.head = (p.tail + 1) % p.size
    let unconsumed := (p.tail + p.size - p.head) % p.size
    (s.ctl ≠ .running → exec (.jobTailWrite n v) s = .next s ∧ exec (.rptHeadWrite n v) s = .next s) ∧
    (s.ctl = .running → q.state = .open → i < q.size →
      exec (.jobTailWrite n v) s = .next (settle (s.modJobRing n fun q => { q with tail := i }))) ∧
    (s.ctl = .running → q.state ≠ .open ∨ q.size ≤ i →
      exec (.jobTailWrite n v) s = .next (settle (s.raised (.indexError false n v)))) ∧
    (s.ctl = .running → p.Sound →
      let taken := exec (.rptHeadWrite n v) s = .next (settle (s.modPoster n fun p => { p with head := i }))
      let rejected := exec (.rptHeadWrite n v) s = .next (settle (s.raised (.indexError true n v)))
      (∀ k, p.state = .open → ¬ onPlace → k ≤ unconsumed + flying → i = (p.head + k) % p.size → taken) ∧
      (p.state = .open → onPlace → i = p.head → taken) ∧
      (p.state ≠ .open ∨ p.size ≤ i → rejected) ∧
      (¬ onPlace → (∀ k ≤ unconsumed + flying, i ≠ (p.head + k) % p.size) → rejected) ∧
      (onPlace → i ≠ p.head → rejected))

/-- R177 and R178: an enable of 1 written in OFF, where every block holds its reset values, starts the part when the
control ring configuration is valid: RUNNING, `config_error` clear, cause NONE, and job ring 0 and report ring 0 open
from the control ring registers. Otherwise the controller stays OFF with `config_error` set and enable reading 0, and
nothing else changes. The interrupt enable is taken in both. -/
def Obligations.StartUpOpensTheControlRings : Prop :=
  ∀ (c : Instr) (interruptEnable : Bool) (s : State), ctrlWrite c = some (true, interruptEnable) → s.ctl = .off →
    let started :=
      { s with
        ctl := .running
        interruptEnable := interruptEnable
        configError := false
        fatalCause := .none
        jobRings := s.jobRings.set 0
          { state := .open, base := s.cringJobBase, size := s.cringJobSize.toNat, bound := 0 }
        posters := s.posters.set 0
          { state := .open
            base := s.cringRptBase
            size := s.cringRptSize.toNat
            vector := 0
            coalescingCount := 1
            coalescingTime := 0 } }
    let failed := { s with interruptEnable := interruptEnable, configError := true }
    (s.StopsSound → s.ValidConfig → exec c s = .next started ∧ (readWindow 0x000 .word started).getLsbD 0 = true) ∧
    (¬ s.ValidConfig → exec c s = .next failed ∧ (readWindow 0x000 .word failed).getLsbD 0 = false)

/-- R144 and R173: a write to CTRL that starts and stops nothing changes the interrupt enable alone, and in STOPPING not
even that. In RUNNING a change from clear to set passes the vector of each ring whose pending-message flag is set, in
ring order, each but once, and clears the flags. -/
def Obligations.InterruptEnableChanges : Prop :=
  ∀ (c : Instr) (enable interruptEnable : Bool) (s : State), ctrlWrite c = some (enable, interruptEnable) →
    let changed := { s with interruptEnable := interruptEnable }
    (s.ctl = .stopping → exec c s = .next s) ∧
    (s.ctl = .off → enable = false → exec c s = .next changed) ∧
    (s.ctl = .fatal → enable = true → exec c s = .next changed) ∧
    (s.ctl = .running → enable = true → interruptEnable = false ∨ s.interruptEnable = true →
      exec c s = .next (settle changed)) ∧
    (s.ctl = .running → enable = true → interruptEnable = true → s.interruptEnable = false →
      exec c s = .next (settle
        { changed with
          posters := Vector.ofFn fun n : Fin 8 => { s.poster n with pendingMessage := false }
          messages := (List.finRange 8).foldl
            (fun ms n =>
              if (s.poster n).pendingMessage = true ∧ (s.poster n).vector ∉ ms then ms ++ [(s.poster n).vector] else ms)
            s.messages }))

/-- R179, R180 and R182: an enable of 0 written in RUNNING or FATAL, or a PCIe reset, begins a stop that drops every
block's work with no report. It ends in the event in which the outstanding-access count is 0, its first event included:
OFF, with every lane's configuration as after power-on. STOP_END is that end when it is the last access that finishes;
in OFF and STOPPING a PCIe reset changes nothing. That STOP_END finishes the last access itself, and is no event with
two or more outstanding or outside STOPPING, is the model's reading (log entries 4 and 6); that the slots are FREE and
the rotation pointer is 7 from the stop's first event on is its choice (log entry 25). -/
def Obligations.StopDropsAllWork : Prop :=
  (∀ (c : Instr) (interruptEnable : Bool) (s : State), ctrlWrite c = some (false, interruptEnable) →
    s.ctl = .running ∨ s.ctl = .fatal →
    let u := { s.stopBegun with interruptEnable := interruptEnable }
    exec c s = .next (if s.accesses = [] then u.stopEnded else u)) ∧
  (∀ s : State,
    (s.ctl = .running ∨ s.ctl = .fatal →
      exec .pcieReset s = .next (if s.accesses = [] then s.stopBegun.stopEnded else s.stopBegun)) ∧
    (s.ctl = .off ∨ s.ctl = .stopping → exec .pcieReset s = .next s) ∧
    (s.ctl = .stopping → s.accesses.length = 1 → exec .stopEnd s = .next s.stopEnded) ∧
    (s.ctl ≠ .stopping ∨ 2 ≤ s.accesses.length → exec .stopEnd s = .next s))

/-- R172, R174, R175, R176 and R186: a 32-bit write to an aligned offset reaches the register of that offset: a control
ring register takes it in OFF and replaces that word alone, and any other register, or none, ignores it. A read returns
the registers' fields. Another access is not taken, and a read of it returns FFFFFFFFh. -/
def Obligations.RegisterWindowRoutesEachWord : Prop :=
  ∀ (offset : BitVec 12) (w : AccessWidth) (v : BitVec 32) (s : State),
    let takes := fun t : State => exec (.registerWrite offset w v) s = .next t
    let reads := fun x : BitVec 32 => readWindow offset w s = x
    let o := offset.toNat
    let indexed := fun base : Nat => base ≤ o ∧ o < base + 32
    let n : RingId := Fin.ofNat 8 (o / 4)
    (w ≠ .word ∨ o % 4 ≠ 0 → takes s ∧ reads 0xFFFFFFFF) ∧
    (w = .word → o % 4 = 0 →
      (indexed 0x100 →
        exec (.registerWrite offset w v) s = exec (.jobTailWrite n v) s ∧
        reads (if s.ctl = .running ∨ s.ctl = .fatal then BitVec.ofNat 32 (s.jobRing n).tail else 0)) ∧
      (indexed 0x140 →
        exec (.registerWrite offset w v) s = exec (.rptHeadWrite n v) s ∧
        reads (if s.ctl = .running ∨ s.ctl = .fatal then BitVec.ofNat 32 (s.poster n).head else 0)) ∧
      (o ∉ [0x000, 0x010, 0x014, 0x018, 0x01C, 0x020] → ¬ indexed 0x100 → ¬ indexed 0x140 → takes s) ∧
      (o ∉ [0x000, 0x004, 0x010, 0x014, 0x018, 0x01C, 0x020, 0x030, 0x034] → ¬ indexed 0x100 → ¬ indexed 0x140 →
        reads 0) ∧
      (s.ctl ≠ .off → o ∈ [0x010, 0x014, 0x018, 0x01C, 0x020] → takes s) ∧
      (s.ctl = .off →
        (o = 0x010 → takes { s with cringJobBase := (s.cringJobBase >>> 32).setWidth 32 ++ v }) ∧
        (o = 0x014 → takes { s with cringJobBase := v ++ s.cringJobBase.setWidth 32 }) ∧
        (o = 0x018 → takes { s with cringRptBase := (s.cringRptBase >>> 32).setWidth 32 ++ v }) ∧
        (o = 0x01C → takes { s with cringRptBase := v ++ s.cringRptBase.setWidth 32 }) ∧
        (o = 0x020 → takes { s with cringJobSize := v.setWidth 13, cringRptSize := (v >>> 16).setWidth 13 })) ∧
      (o = 0x010 → reads (s.cringJobBase.setWidth 32)) ∧
      (o = 0x014 → reads ((s.cringJobBase >>> 32).setWidth 32)) ∧
      (o = 0x018 → reads (s.cringRptBase.setWidth 32)) ∧
      (o = 0x01C → reads ((s.cringRptBase >>> 32).setWidth 32)) ∧
      (o = 0x020 → reads (0#3 ++ s.cringRptSize ++ 0#3 ++ s.cringJobSize)) ∧
      (o = 0x000 →
        reads (0#30 ++ BitVec.ofBool s.interruptEnable ++ BitVec.ofBool (decide (s.ctl = .running ∨ s.ctl = .fatal)))) ∧
      (o = 0x004 →
        reads (0#26 ++ (match s.fatalCause with | .none => 0#2 | .finalWrite => 1#2 | .eventWrite => 2#2) ++ 0#1 ++
          BitVec.ofBool s.configError ++
          (match s.ctl with | .off => 0#2 | .running => 1#2 | .stopping => 2#2 | .fatal => 3#2))))

/-- R182, R3, R16, R105, R125 and R140: power-on brings every block to its OFF values in every state, with each lane's
filtered level from the first sample; the state in which a run begins is one right after power-on, with every line low
(the lines are the model's choice, log entry 1). -/
def Obligations.PowerOnSetsEveryBlock : Prop :=
  (∀ (levels : BitVec 16) (s : State), ∃ t,
    exec (.powerOn levels) s = .next t ∧ t.ctl = .off ∧ t.interruptEnable = false ∧ t.configError = false ∧
    t.fatalCause = .none ∧ t.cringJobBase = 0 ∧ t.cringRptBase = 0 ∧ t.cringJobSize = 0 ∧ t.cringRptSize = 0 ∧
    t.timebase = 0 ∧ t.timeHi = 0 ∧ t.accesses = [] ∧ t.Dropped ∧ t.StopsSound ∧ t.port = { position := 24 } ∧
    t.line = levels ∧ t.pending = s.pending ∧
    ∀ l : LaneId, t.lane l = { filtered := levels.getLsbD l.val }) ∧
  (∀ s : State, exec (.powerOn 0) s = .next { State.reset with pending := s.pending })

/-- R168, R173, R177, R179 to R182: RUNNING is entered only from OFF, by an enable of 1 with a valid configuration;
FATAL only from RUNNING, by a report write fault of ring 0; STOPPING only from RUNNING or FATAL, by an enable of 0 or a
PCIe reset; OFF only by power-on, or at the end of a stop, with nothing outstanding: in the event of STOPPING that
finishes the last access, or in the event that begins the stop. While the controller stays FATAL no block changes, but
for the timebase, its latch, the glitch filters, the interrupt enable, and accesses and the port as they finish. -/
def Obligations.ControllerStatesAndTheFatalFreeze : Prop :=
  ∀ (c : Instr) (s t : State), exec c s = .next t →
    (t.ctl = .running → s.ctl = .running ∨
      s.ctl = .off ∧ s.ValidConfig ∧ ∃ interruptEnable, ctrlWrite c = some (true, interruptEnable)) ∧
    (t.ctl = .fatal → s.ctl = .fatal ∨
      s.ctl = .running ∧ Access.report 0 ∈ s.accesses ∧ (c = .ring0ReportWriteFault ∨ c = .reportWriteFault 0)) ∧
    (t.ctl = .stopping → s.ctl = .stopping ∨
      (s.ctl = .running ∨ s.ctl = .fatal) ∧ s.accesses ≠ [] ∧
        (c = .pcieReset ∨ ∃ interruptEnable, ctrlWrite c = some (false, interruptEnable))) ∧
    (t.ctl = .off → s.ctl = .off ∨ (∃ levels, c = .powerOn levels) ∨
      t.accesses = [] ∧
        ((s.ctl = .stopping ∧ ((∃ a, finishedAccess c = some a) ∨ c = .writeAcceptance ∨ c = .stopEnd)) ∨
          ((s.ctl = .running ∨ s.ctl = .fatal) ∧
            (c = .pcieReset ∨ ∃ interruptEnable, ctrlWrite c = some (false, interruptEnable))))) ∧
    (s.ctl = .fatal → t.ctl = .fatal →
      t = { s with
        interruptEnable := t.interruptEnable
        accesses := t.accesses
        readData := t.readData
        timebase := t.timebase
        timeHi := t.timeHi
        line := t.line
        lanes := t.lanes
        port := { s.port with busy := t.port.busy } } ∧
      ∀ l : LaneId, t.lane l =
        { s.lane l with
          filtered := (t.lane l).filtered, candidate := (t.lane l).candidate, formed := (t.lane l).formed })

/-! ### What every step keeps -/

/-- Every step keeps the lists of the part within their depths, the message list without repeats, the rings' indices,
counts and credits within their bounds, and a report ring OPEN while a write of it is in flight (R50, R70, R75, R105,
R125, R131, R133, R134, R137, R138, R145). -/
def Obligations.EveryStepKeepsTheBounds : Prop :=
  ∀ s t : State, s.Bounded ∧ s.MessagesDistinct ∧ s.RingsSound ∧ s.WritesOpen → step s = .next t →
    t.Bounded ∧ t.MessagesDistinct ∧ t.RingsSound ∧ t.WritesOpen

/-- Every step keeps every lane sound: never both active and lent, a context exactly with an active job, a SPAN that
asks only at the head of an idle lane that is not held, and HELD contexts on held lanes, with nothing pending; and no
tag stands twice in a ring's tag map, and none in that of ring 0 (R43, R48, R53, R55, R60, R89). -/
def Obligations.EveryStepKeepsLanesAndTagsSound : Prop :=
  ∀ s t : State, s.LanesSound ∧ s.TagsSound → step s = .next t → t.LanesSound ∧ t.TagsSound

/-- Every step keeps what a stop leaves: in OFF and STOPPING no job, ring, report or message is left; in OFF nothing is
outstanding and each lane has its reset configuration; in STOPPING something is outstanding (R16, R69, R179, R180).
That the slots are FREE and the rotation pointer is 7 in STOPPING too is the model's choice (log entry 25). -/
def Obligations.EveryStepKeepsTheStopsSound : Prop :=
  ∀ s t : State, s.StopsSound → step s = .next t → t.StopsSound

/-- Every step from a state with sound lanes and lists keeps the jobs where their slots say, and `outstanding` the
number of a slot's records on the lanes (R44, R50, R53, R65, R68, R70, R85). -/
def Obligations.EveryStepKeepsTheJobsPlaced : Prop :=
  ∀ s t : State, s.Bounded → s.LanesSound → s.JobsPlaced → step s = .next t → t.JobsPlaced

/-- The state in which a run begins has all that the steps keep (R182). -/
def Obligations.ResetHasWhatTheStepsKeep : Prop :=
  State.reset.Bounded ∧ State.reset.MessagesDistinct ∧ State.reset.RingsSound ∧ State.reset.WritesOpen ∧
    State.reset.LanesSound ∧ State.reset.TagsSound ∧ State.reset.StopsSound ∧ State.reset.JobsPlaced

/-! ### Entries in host memory -/

/-- Section 11.1 and R183: 64 bytes that hold the fields of a well-formed command that is an entry, at the offsets of
its kind, are read as that command, whatever every reserved bit holds. Sections 11.2 and 11.3 and R185: each field of a
result record, of a PROGRESS, of each FINAL and of an event report stands at its offset, and every reserved bit and
field that does not apply is 0; statuses and slot states have the codes of section 11.5. -/
def Obligations.EntriesRecordsAndReportsHaveTheirBytes : Prop :=
  (∀ (c : Instr) (b : EntryBytes), c.wf = true → encodeEntry c = some b → ∀ b' : EntryBytes,
    (∀ run ∈ fieldRuns c, b'.extractLsb' run.1 run.2 = b.extractLsb' run.1 run.2) → decodeEntry b' = c) ∧
  (∀ r : ResultRecord,
    let b := recordBytes r
    b.extractLsb' 0 64 = r.index ∧ b.extractLsb' 64 32 = r.value ∧ b.extractLsb' 96 32 = r.aux ∧
    b.extractLsb' 128 48 = r.startTs ∧ b.extractLsb' 176 16 = r.lostBefore ∧ b.extractLsb' 192 48 = r.endTs ∧
    b.getLsbD 240 = r.flags.overflow ∧ b.getLsbD 241 = r.flags.bandLow ∧ b.getLsbD 242 = r.flags.bandHigh ∧
    b.getLsbD 243 = r.flags.edgeSeen ∧ b.getLsbD 244 = r.afterLoss ∧ b.extractLsb' 245 11 = 0) ∧
  (∀ r : Report,
    let b := reportBytes r
    b.extractLsb' 8 8 = r.kindCode ∧ b.extractLsb' 16 16 = r.sequence ∧ b.extractLsb' 32 16 = r.tag ∧
    b.extractLsb' 48 8 = BitVec.ofNat 8 r.ring.val ∧ b.extractLsb' 64 16 = r.ringHead ∧
    match r.body with
    | .progress address records retired =>
      b.extractLsb' 0 8 = 1 ∧ b.extractLsb' 56 8 = 0 ∧ b.extractLsb' 80 16 = 0 ∧ b.extractLsb' 96 32 = retired ∧
      b.extractLsb' 128 32 = records ∧ b.extractLsb' 160 32 = 0 ∧ b.extractLsb' 192 64 = address
    | .final status body =>
      b.extractLsb' 0 8 = 2 ∧ b.extractLsb' 56 8 = statusCode status ∧
      match body with
      | .empty => b.extractLsb' 80 176 = 0
      | .measurement seen faulted records unused lost written retired =>
        b.getLsbD 80 = seen.overflow ∧ b.getLsbD 81 = seen.bandLow ∧ b.getLsbD 82 = seen.bandHigh ∧
        b.getLsbD 83 = seen.edgeSeen ∧ b.extractLsb' 84 4 = 0 ∧ b.getLsbD 88 = faulted ∧ b.extractLsb' 89 7 = 0 ∧
        b.extractLsb' 96 16 = records ∧ b.extractLsb' 112 8 = unused ∧ b.extractLsb' 120 8 = 0 ∧
        b.extractLsb' 128 32 = lost ∧ b.extractLsb' 160 64 = written ∧ b.extractLsb' 224 32 = retired
      | .addBuffer target position =>
        b.extractLsb' 80 16 = target ∧ b.extractLsb' 96 8 = position ∧ b.extractLsb' 104 152 = 0
      | .openReportRing id size =>
        b.extractLsb' 80 8 = id ∧ b.extractLsb' 88 8 = 0 ∧ b.extractLsb' 96 16 = size ∧ b.extractLsb' 112 144 = 0
      | .openJobRing id bound size =>
        b.extractLsb' 80 8 = id ∧ b.extractLsb' 88 8 = bound ∧ b.extractLsb' 96 16 = size ∧
        b.extractLsb' 112 144 = 0
      | .closeReportRing id head tail =>
        b.extractLsb' 80 8 = id ∧ b.extractLsb' 88 8 = 0 ∧ b.extractLsb' 96 16 = head ∧ b.extractLsb' 112 16 = tail ∧
        b.extractLsb' 128 128 = 0
      | .closeJobRing ring ended waited stoppedHead =>
        b.extractLsb' 80 8 = ring ∧ b.extractLsb' 88 8 = ended ∧ b.extractLsb' 96 16 = waited ∧
        b.extractLsb' 112 16 = stoppedHead ∧ b.extractLsb' 128 128 = 0
      | .setLane lane filter invert =>
        b.extractLsb' 80 8 = lane ∧ b.extractLsb' 88 8 = filter ∧ b.extractLsb' 96 8 = invert ∧
        b.extractLsb' 104 152 = 0
      | .claimLane lane ownerBefore ownerAfter =>
        b.extractLsb' 80 8 = lane ∧ b.extractLsb' 88 8 = ownerBefore ∧ b.extractLsb' 96 8 = ownerAfter ∧
        b.extractLsb' 104 152 = 0
      | .holdLane lane ring tag abandoned =>
        b.extractLsb' 80 8 = lane ∧ b.extractLsb' 88 8 = ring ∧ b.extractLsb' 96 16 = tag ∧
        b.extractLsb' 112 8 = (if abandoned then 1 else 0) ∧ b.extractLsb' 120 136 = 0
      | .releaseLane lane ring tag =>
        b.extractLsb' 80 8 = lane ∧ b.extractLsb' 88 8 = ring ∧ b.extractLsb' 96 16 = tag ∧
        b.extractLsb' 112 144 = 0
      | .cancelJob ring found tag =>
        b.extractLsb' 80 8 = ring ∧ b.extractLsb' 88 8 = found ∧ b.extractLsb' 96 16 = tag ∧
        b.extractLsb' 112 144 = 0
      | .peekJob ring state tag queued produced written lost =>
        b.extractLsb' 80 8 = ring ∧ b.extractLsb' 88 8 = state ∧ b.extractLsb' 96 16 = tag ∧
        b.extractLsb' 112 8 = queued ∧ b.extractLsb' 120 8 = 0 ∧ b.extractLsb' 128 48 = produced.setWidth 48 ∧
        b.extractLsb' 176 48 = written.setWidth 48 ∧ b.extractLsb' 224 32 = lost) ∧
  (∀ (e : EventReport) (sequence : BitVec 16) (eventsLost : Byte),
    let b := eventBytes e sequence eventsLost
    b.extractLsb' 0 8 = 3 ∧ b.extractLsb' 16 16 = sequence ∧ b.extractLsb' 32 48 = 0 ∧ b.extractLsb' 80 8 = eventsLost ∧
    b.extractLsb' 104 24 = 0 ∧ b.extractLsb' 160 96 = 0 ∧
    match e with
    | .fetchFault ring index =>
      b.extractLsb' 8 8 = 1 ∧ b.extractLsb' 88 8 = BitVec.ofNat 8 ring.val ∧ b.extractLsb' 96 8 = 0 ∧
      b.extractLsb' 128 32 = BitVec.ofNat 32 index
    | .reportFault ring place =>
      b.extractLsb' 8 8 = 2 ∧ b.extractLsb' 88 8 = BitVec.ofNat 8 ring.val ∧ b.extractLsb' 96 8 = 0 ∧
      b.extractLsb' 128 32 = BitVec.ofNat 32 place
    | .indexError isHead ring value =>
      b.extractLsb' 8 8 = 3 ∧ b.extractLsb' 88 8 = BitVec.ofNat 8 ring.val ∧
      b.extractLsb' 96 8 = (if isHead then 1 else 0) ∧ b.extractLsb' 128 32 = value) ∧
  [.ok, .bandStop, .startTimeout, .cancelled, .ringClosed, .writeFault].map statusCode = [0, 1, 2, 3, 4, 5] ∧
  [.badKind, .badField, .badLane, .badBuffer, .dupTag, .notOwner, .queueFull, .notFound, .tooLate, .listFull,
    .ringExists, .noRing, .inUse, .laneBusy, .alreadyHeld, .notHeld].map statusCode =
    [0x10, 0x11, 0x12, 0x13, 0x14, 0x15, 0x16, 0x17, 0x18, 0x19, 0x1A, 0x1B, 0x1C, 0x1D, 0x1E, 0x1F] ∧
  [.fetching, .pending, .active, .draining, .waiting, .posting].map slotStateCode = [1, 2, 3, 4, 5, 6]

end
end

