-- ==== Sys2Proof/Laws/State.lean ====
section
/-! SUPPORT. What reading a field of the state gives after one of the updates of Machine/Ops.lean: the updates of one lane,
slot, ring, poster or tag map, and the issue and finish of accesses and the sending of loan messages. -/

namespace Sys2Proof.Machine

section
variable (s : State)

/-! ### setLane -/

@[simp] theorem State.setLane_ctl (l : LaneId) (x : Lane) : (s.setLane l x).ctl = s.ctl := rfl

@[simp] theorem State.setLane_interruptEnable (l : LaneId) (x : Lane) : (s.setLane l x).interruptEnable = s.interruptEnable := rfl

@[simp] theorem State.setLane_configError (l : LaneId) (x : Lane) : (s.setLane l x).configError = s.configError := rfl

@[simp] theorem State.setLane_fatalCause (l : LaneId) (x : Lane) : (s.setLane l x).fatalCause = s.fatalCause := rfl

@[simp] theorem State.setLane_cringJobBase (l : LaneId) (x : Lane) : (s.setLane l x).cringJobBase = s.cringJobBase := rfl

@[simp] theorem State.setLane_cringRptBase (l : LaneId) (x : Lane) : (s.setLane l x).cringRptBase = s.cringRptBase := rfl

@[simp] theorem State.setLane_cringJobSize (l : LaneId) (x : Lane) : (s.setLane l x).cringJobSize = s.cringJobSize := rfl

@[simp] theorem State.setLane_cringRptSize (l : LaneId) (x : Lane) : (s.setLane l x).cringRptSize = s.cringRptSize := rfl

@[simp] theorem State.setLane_accesses (l : LaneId) (x : Lane) : (s.setLane l x).accesses = s.accesses := rfl

@[simp] theorem State.setLane_readData (l : LaneId) (x : Lane) : (s.setLane l x).readData = s.readData := rfl

@[simp] theorem State.setLane_timebase (l : LaneId) (x : Lane) : (s.setLane l x).timebase = s.timebase := rfl

@[simp] theorem State.setLane_timeHi (l : LaneId) (x : Lane) : (s.setLane l x).timeHi = s.timeHi := rfl

@[simp] theorem State.setLane_line (l : LaneId) (x : Lane) : (s.setLane l x).line = s.line := rfl

@[simp] theorem State.setLane_loanMsgs (l : LaneId) (x : Lane) : (s.setLane l x).loanMsgs = s.loanMsgs := rfl

@[simp] theorem State.setLane_slots (l : LaneId) (x : Lane) : (s.setLane l x).slots = s.slots := rfl

@[simp] theorem State.setLane_tagMaps (l : LaneId) (x : Lane) : (s.setLane l x).tagMaps = s.tagMaps := rfl

@[simp] theorem State.setLane_jobRings (l : LaneId) (x : Lane) : (s.setLane l x).jobRings = s.jobRings := rfl

@[simp] theorem State.setLane_pointer (l : LaneId) (x : Lane) : (s.setLane l x).pointer = s.pointer := rfl

@[simp] theorem State.setLane_fetch (l : LaneId) (x : Lane) : (s.setLane l x).fetch = s.fetch := rfl

@[simp] theorem State.setLane_posters (l : LaneId) (x : Lane) : (s.setLane l x).posters = s.posters := rfl

@[simp] theorem State.setLane_events (l : LaneId) (x : Lane) : (s.setLane l x).events = s.events := rfl

@[simp] theorem State.setLane_eventsLost (l : LaneId) (x : Lane) : (s.setLane l x).eventsLost = s.eventsLost := rfl

@[simp] theorem State.setLane_messages (l : LaneId) (x : Lane) : (s.setLane l x).messages = s.messages := rfl

@[simp] theorem State.setLane_port (l : LaneId) (x : Lane) : (s.setLane l x).port = s.port := rfl

@[simp] theorem State.setLane_pending (l : LaneId) (x : Lane) : (s.setLane l x).pending = s.pending := rfl

@[simp] theorem State.setLane_slot (l : LaneId) (x : Lane) (j' : SlotId) :
    (s.setLane l x).slot j' = s.slot j' := rfl

@[simp] theorem State.setLane_jobRing (l : LaneId) (x : Lane) (r' : RingId) :
    (s.setLane l x).jobRing r' = s.jobRing r' := rfl

@[simp] theorem State.setLane_poster (l : LaneId) (x : Lane) (n' : RingId) :
    (s.setLane l x).poster n' = s.poster n' := rfl

@[simp] theorem State.setLane_tagMap (l : LaneId) (x : Lane) (r' : RingId) :
    (s.setLane l x).tagMap r' = s.tagMap r' := rfl

@[simp] theorem State.lane_setLane_self (l : LaneId) (x : Lane) : (s.setLane l x).lane l = x := by
  simp [State.setLane, State.lane]

theorem State.lane_setLane_ne {l l' : LaneId} (x : Lane) (h : l' ≠ l) :
    (s.setLane l x).lane l' = s.lane l' := by
  have : l.val ≠ l'.val := fun e => h (Fin.ext e.symm)
  simp [State.setLane, State.lane, Vector.getElem_set_ne, this]

theorem State.lane_setLane (l l' : LaneId) (x : Lane) :
    (s.setLane l x).lane l' = if l' = l then x else s.lane l' := by
  by_cases h : l' = l
  · subst h; simp
  · simp [h, State.lane_setLane_ne]

@[simp] theorem State.setLane_lane_self (l : LaneId) : s.setLane l (s.lane l) = s := by
  simp [State.setLane, State.lane]

@[simp] theorem State.setLane_setLane (l : LaneId) (x y : Lane) : (s.setLane l x).setLane l y = s.setLane l y := by
  simp [State.setLane]

/-! ### setSlot -/

@[simp] theorem State.setSlot_ctl (j : SlotId) (x : Slot) : (s.setSlot j x).ctl = s.ctl := rfl

@[simp] theorem State.setSlot_interruptEnable (j : SlotId) (x : Slot) : (s.setSlot j x).interruptEnable = s.interruptEnable := rfl

@[simp] theorem State.setSlot_configError (j : SlotId) (x : Slot) : (s.setSlot j x).configError = s.configError := rfl

@[simp] theorem State.setSlot_fatalCause (j : SlotId) (x : Slot) : (s.setSlot j x).fatalCause = s.fatalCause := rfl

@[simp] theorem State.setSlot_cringJobBase (j : SlotId) (x : Slot) : (s.setSlot j x).cringJobBase = s.cringJobBase := rfl

@[simp] theorem State.setSlot_cringRptBase (j : SlotId) (x : Slot) : (s.setSlot j x).cringRptBase = s.cringRptBase := rfl

@[simp] theorem State.setSlot_cringJobSize (j : SlotId) (x : Slot) : (s.setSlot j x).cringJobSize = s.cringJobSize := rfl

@[simp] theorem State.setSlot_cringRptSize (j : SlotId) (x : Slot) : (s.setSlot j x).cringRptSize = s.cringRptSize := rfl

@[simp] theorem State.setSlot_accesses (j : SlotId) (x : Slot) : (s.setSlot j x).accesses = s.accesses := rfl

@[simp] theorem State.setSlot_readData (j : SlotId) (x : Slot) : (s.setSlot j x).readData = s.readData := rfl

@[simp] theorem State.setSlot_timebase (j : SlotId) (x : Slot) : (s.setSlot j x).timebase = s.timebase := rfl

@[simp] theorem State.setSlot_timeHi (j : SlotId) (x : Slot) : (s.setSlot j x).timeHi = s.timeHi := rfl

@[simp] theorem State.setSlot_line (j : SlotId) (x : Slot) : (s.setSlot j x).line = s.line := rfl

@[simp] theorem State.setSlot_lanes (j : SlotId) (x : Slot) : (s.setSlot j x).lanes = s.lanes := rfl

@[simp] theorem State.setSlot_loanMsgs (j : SlotId) (x : Slot) : (s.setSlot j x).loanMsgs = s.loanMsgs := rfl

@[simp] theorem State.setSlot_tagMaps (j : SlotId) (x : Slot) : (s.setSlot j x).tagMaps = s.tagMaps := rfl

@[simp] theorem State.setSlot_jobRings (j : SlotId) (x : Slot) : (s.setSlot j x).jobRings = s.jobRings := rfl

@[simp] theorem State.setSlot_pointer (j : SlotId) (x : Slot) : (s.setSlot j x).pointer = s.pointer := rfl

@[simp] theorem State.setSlot_fetch (j : SlotId) (x : Slot) : (s.setSlot j x).fetch = s.fetch := rfl

@[simp] theorem State.setSlot_posters (j : SlotId) (x : Slot) : (s.setSlot j x).posters = s.posters := rfl

@[simp] theorem State.setSlot_events (j : SlotId) (x : Slot) : (s.setSlot j x).events = s.events := rfl

@[simp] theorem State.setSlot_eventsLost (j : SlotId) (x : Slot) : (s.setSlot j x).eventsLost = s.eventsLost := rfl

@[simp] theorem State.setSlot_messages (j : SlotId) (x : Slot) : (s.setSlot j x).messages = s.messages := rfl

@[simp] theorem State.setSlot_port (j : SlotId) (x : Slot) : (s.setSlot j x).port = s.port := rfl

@[simp] theorem State.setSlot_pending (j : SlotId) (x : Slot) : (s.setSlot j x).pending = s.pending := rfl

@[simp] theorem State.setSlot_lane (j : SlotId) (x : Slot) (l' : LaneId) :
    (s.setSlot j x).lane l' = s.lane l' := rfl

@[simp] theorem State.setSlot_jobRing (j : SlotId) (x : Slot) (r' : RingId) :
    (s.setSlot j x).jobRing r' = s.jobRing r' := rfl

@[simp] theorem State.setSlot_poster (j : SlotId) (x : Slot) (n' : RingId) :
    (s.setSlot j x).poster n' = s.poster n' := rfl

@[simp] theorem State.setSlot_tagMap (j : SlotId) (x : Slot) (r' : RingId) :
    (s.setSlot j x).tagMap r' = s.tagMap r' := rfl

@[simp] theorem State.slot_setSlot_self (j : SlotId) (x : Slot) : (s.setSlot j x).slot j = x := by
  simp [State.setSlot, State.slot]

theorem State.slot_setSlot_ne {j j' : SlotId} (x : Slot) (h : j' ≠ j) :
    (s.setSlot j x).slot j' = s.slot j' := by
  have : j.val ≠ j'.val := fun e => h (Fin.ext e.symm)
  simp [State.setSlot, State.slot, Vector.getElem_set_ne, this]

theorem State.slot_setSlot (j j' : SlotId) (x : Slot) :
    (s.setSlot j x).slot j' = if j' = j then x else s.slot j' := by
  by_cases h : j' = j
  · subst h; simp
  · simp [h, State.slot_setSlot_ne]

@[simp] theorem State.setSlot_slot_self (j : SlotId) : s.setSlot j (s.slot j) = s := by
  simp [State.setSlot, State.slot]

@[simp] theorem State.setSlot_setSlot (j : SlotId) (x y : Slot) : (s.setSlot j x).setSlot j y = s.setSlot j y := by
  simp [State.setSlot]

/-! ### setJobRing -/

@[simp] theorem State.setJobRing_ctl (r : RingId) (x : JobRing) : (s.setJobRing r x).ctl = s.ctl := rfl

@[simp] theorem State.setJobRing_interruptEnable (r : RingId) (x : JobRing) : (s.setJobRing r x).interruptEnable = s.interruptEnable := rfl

@[simp] theorem State.setJobRing_configError (r : RingId) (x : JobRing) : (s.setJobRing r x).configError = s.configError := rfl

@[simp] theorem State.setJobRing_fatalCause (r : RingId) (x : JobRing) : (s.setJobRing r x).fatalCause = s.fatalCause := rfl

@[simp] theorem State.setJobRing_cringJobBase (r : RingId) (x : JobRing) : (s.setJobRing r x).cringJobBase = s.cringJobBase := rfl

@[simp] theorem State.setJobRing_cringRptBase (r : RingId) (x : JobRing) : (s.setJobRing r x).cringRptBase = s.cringRptBase := rfl

@[simp] theorem State.setJobRing_cringJobSize (r : RingId) (x : JobRing) : (s.setJobRing r x).cringJobSize = s.cringJobSize := rfl

@[simp] theorem State.setJobRing_cringRptSize (r : RingId) (x : JobRing) : (s.setJobRing r x).cringRptSize = s.cringRptSize := rfl

@[simp] theorem State.setJobRing_accesses (r : RingId) (x : JobRing) : (s.setJobRing r x).accesses = s.accesses := rfl

@[simp] theorem State.setJobRing_readData (r : RingId) (x : JobRing) : (s.setJobRing r x).readData = s.readData := rfl

@[simp] theorem State.setJobRing_timebase (r : RingId) (x : JobRing) : (s.setJobRing r x).timebase = s.timebase := rfl

@[simp] theorem State.setJobRing_timeHi (r : RingId) (x : JobRing) : (s.setJobRing r x).timeHi = s.timeHi := rfl

@[simp] theorem State.setJobRing_line (r : RingId) (x : JobRing) : (s.setJobRing r x).line = s.line := rfl

@[simp] theorem State.setJobRing_lanes (r : RingId) (x : JobRing) : (s.setJobRing r x).lanes = s.lanes := rfl

@[simp] theorem State.setJobRing_loanMsgs (r : RingId) (x : JobRing) : (s.setJobRing r x).loanMsgs = s.loanMsgs := rfl

@[simp] theorem State.setJobRing_slots (r : RingId) (x : JobRing) : (s.setJobRing r x).slots = s.slots := rfl

@[simp] theorem State.setJobRing_tagMaps (r : RingId) (x : JobRing) : (s.setJobRing r x).tagMaps = s.tagMaps := rfl

@[simp] theorem State.setJobRing_pointer (r : RingId) (x : JobRing) : (s.setJobRing r x).pointer = s.pointer := rfl

@[simp] theorem State.setJobRing_fetch (r : RingId) (x : JobRing) : (s.setJobRing r x).fetch = s.fetch := rfl

@[simp] theorem State.setJobRing_posters (r : RingId) (x : JobRing) : (s.setJobRing r x).posters = s.posters := rfl

@[simp] theorem State.setJobRing_events (r : RingId) (x : JobRing) : (s.setJobRing r x).events = s.events := rfl

@[simp] theorem State.setJobRing_eventsLost (r : RingId) (x : JobRing) : (s.setJobRing r x).eventsLost = s.eventsLost := rfl

@[simp] theorem State.setJobRing_messages (r : RingId) (x : JobRing) : (s.setJobRing r x).messages = s.messages := rfl

@[simp] theorem State.setJobRing_port (r : RingId) (x : JobRing) : (s.setJobRing r x).port = s.port := rfl

@[simp] theorem State.setJobRing_pending (r : RingId) (x : JobRing) : (s.setJobRing r x).pending = s.pending := rfl

@[simp] theorem State.setJobRing_lane (r : RingId) (x : JobRing) (l' : LaneId) :
    (s.setJobRing r x).lane l' = s.lane l' := rfl

@[simp] theorem State.setJobRing_slot (r : RingId) (x : JobRing) (j' : SlotId) :
    (s.setJobRing r x).slot j' = s.slot j' := rfl

@[simp] theorem State.setJobRing_poster (r : RingId) (x : JobRing) (n' : RingId) :
    (s.setJobRing r x).poster n' = s.poster n' := rfl

@[simp] theorem State.setJobRing_tagMap (r : RingId) (x : JobRing) (r' : RingId) :
    (s.setJobRing r x).tagMap r' = s.tagMap r' := rfl

@[simp] theorem State.jobRing_setJobRing_self (r : RingId) (x : JobRing) : (s.setJobRing r x).jobRing r = x := by
  simp [State.setJobRing, State.jobRing]

theorem State.jobRing_setJobRing_ne {r r' : RingId} (x : JobRing) (h : r' ≠ r) :
    (s.setJobRing r x).jobRing r' = s.jobRing r' := by
  have : r.val ≠ r'.val := fun e => h (Fin.ext e.symm)
  simp [State.setJobRing, State.jobRing, Vector.getElem_set_ne, this]

theorem State.jobRing_setJobRing (r r' : RingId) (x : JobRing) :
    (s.setJobRing r x).jobRing r' = if r' = r then x else s.jobRing r' := by
  by_cases h : r' = r
  · subst h; simp
  · simp [h, State.jobRing_setJobRing_ne]

@[simp] theorem State.setJobRing_jobRing_self (r : RingId) : s.setJobRing r (s.jobRing r) = s := by
  simp [State.setJobRing, State.jobRing]

@[simp] theorem State.setJobRing_setJobRing (r : RingId) (x y : JobRing) : (s.setJobRing r x).setJobRing r y = s.setJobRing r y := by
  simp [State.setJobRing]

/-! ### setPoster -/

@[simp] theorem State.setPoster_ctl (n : RingId) (x : Poster) : (s.setPoster n x).ctl = s.ctl := rfl

@[simp] theorem State.setPoster_interruptEnable (n : RingId) (x : Poster) : (s.setPoster n x).interruptEnable = s.interruptEnable := rfl

@[simp] theorem State.setPoster_configError (n : RingId) (x : Poster) : (s.setPoster n x).configError = s.configError := rfl

@[simp] theorem State.setPoster_fatalCause (n : RingId) (x : Poster) : (s.setPoster n x).fatalCause = s.fatalCause := rfl

@[simp] theorem State.setPoster_cringJobBase (n : RingId) (x : Poster) : (s.setPoster n x).cringJobBase = s.cringJobBase := rfl

@[simp] theorem State.setPoster_cringRptBase (n : RingId) (x : Poster) : (s.setPoster n x).cringRptBase = s.cringRptBase := rfl

@[simp] theorem State.setPoster_cringJobSize (n : RingId) (x : Poster) : (s.setPoster n x).cringJobSize = s.cringJobSize := rfl

@[simp] theorem State.setPoster_cringRptSize (n : RingId) (x : Poster) : (s.setPoster n x).cringRptSize = s.cringRptSize := rfl

@[simp] theorem State.setPoster_accesses (n : RingId) (x : Poster) : (s.setPoster n x).accesses = s.accesses := rfl

@[simp] theorem State.setPoster_readData (n : RingId) (x : Poster) : (s.setPoster n x).readData = s.readData := rfl

@[simp] theorem State.setPoster_timebase (n : RingId) (x : Poster) : (s.setPoster n x).timebase = s.timebase := rfl

@[simp] theorem State.setPoster_timeHi (n : RingId) (x : Poster) : (s.setPoster n x).timeHi = s.timeHi := rfl

@[simp] theorem State.setPoster_line (n : RingId) (x : Poster) : (s.setPoster n x).line = s.line := rfl

@[simp] theorem State.setPoster_lanes (n : RingId) (x : Poster) : (s.setPoster n x).lanes = s.lanes := rfl

@[simp] theorem State.setPoster_loanMsgs (n : RingId) (x : Poster) : (s.setPoster n x).loanMsgs = s.loanMsgs := rfl

@[simp] theorem State.setPoster_slots (n : RingId) (x : Poster) : (s.setPoster n x).slots = s.slots := rfl

@[simp] theorem State.setPoster_tagMaps (n : RingId) (x : Poster) : (s.setPoster n x).tagMaps = s.tagMaps := rfl

@[simp] theorem State.setPoster_jobRings (n : RingId) (x : Poster) : (s.setPoster n x).jobRings = s.jobRings := rfl

@[simp] theorem State.setPoster_pointer (n : RingId) (x : Poster) : (s.setPoster n x).pointer = s.pointer := rfl

@[simp] theorem State.setPoster_fetch (n : RingId) (x : Poster) : (s.setPoster n x).fetch = s.fetch := rfl

@[simp] theorem State.setPoster_events (n : RingId) (x : Poster) : (s.setPoster n x).events = s.events := rfl

@[simp] theorem State.setPoster_eventsLost (n : RingId) (x : Poster) : (s.setPoster n x).eventsLost = s.eventsLost := rfl

@[simp] theorem State.setPoster_messages (n : RingId) (x : Poster) : (s.setPoster n x).messages = s.messages := rfl

@[simp] theorem State.setPoster_port (n : RingId) (x : Poster) : (s.setPoster n x).port = s.port := rfl

@[simp] theorem State.setPoster_pending (n : RingId) (x : Poster) : (s.setPoster n x).pending = s.pending := rfl

@[simp] theorem State.setPoster_lane (n : RingId) (x : Poster) (l' : LaneId) :
    (s.setPoster n x).lane l' = s.lane l' := rfl

@[simp] theorem State.setPoster_slot (n : RingId) (x : Poster) (j' : SlotId) :
    (s.setPoster n x).slot j' = s.slot j' := rfl

@[simp] theorem State.setPoster_jobRing (n : RingId) (x : Poster) (r' : RingId) :
    (s.setPoster n x).jobRing r' = s.jobRing r' := rfl

@[simp] theorem State.setPoster_tagMap (n : RingId) (x : Poster) (r' : RingId) :
    (s.setPoster n x).tagMap r' = s.tagMap r' := rfl

@[simp] theorem State.poster_setPoster_self (n : RingId) (x : Poster) : (s.setPoster n x).poster n = x := by
  simp [State.setPoster, State.poster]

theorem State.poster_setPoster_ne {n n' : RingId} (x : Poster) (h : n' ≠ n) :
    (s.setPoster n x).poster n' = s.poster n' := by
  have : n.val ≠ n'.val := fun e => h (Fin.ext e.symm)
  simp [State.setPoster, State.poster, Vector.getElem_set_ne, this]

theorem State.poster_setPoster (n n' : RingId) (x : Poster) :
    (s.setPoster n x).poster n' = if n' = n then x else s.poster n' := by
  by_cases h : n' = n
  · subst h; simp
  · simp [h, State.poster_setPoster_ne]

@[simp] theorem State.setPoster_poster_self (n : RingId) : s.setPoster n (s.poster n) = s := by
  simp [State.setPoster, State.poster]

@[simp] theorem State.setPoster_setPoster (n : RingId) (x y : Poster) : (s.setPoster n x).setPoster n y = s.setPoster n y := by
  simp [State.setPoster]

/-! ### setTagMap -/

@[simp] theorem State.setTagMap_ctl (r : RingId) (x : List TagEntry) : (s.setTagMap r x).ctl = s.ctl := rfl

@[simp] theorem State.setTagMap_interruptEnable (r : RingId) (x : List TagEntry) : (s.setTagMap r x).interruptEnable = s.interruptEnable := rfl

@[simp] theorem State.setTagMap_configError (r : RingId) (x : List TagEntry) : (s.setTagMap r x).configError = s.configError := rfl

@[simp] theorem State.setTagMap_fatalCause (r : RingId) (x : List TagEntry) : (s.setTagMap r x).fatalCause = s.fatalCause := rfl

@[simp] theorem State.setTagMap_cringJobBase (r : RingId) (x : List TagEntry) : (s.setTagMap r x).cringJobBase = s.cringJobBase := rfl

@[simp] theorem State.setTagMap_cringRptBase (r : RingId) (x : List TagEntry) : (s.setTagMap r x).cringRptBase = s.cringRptBase := rfl

@[simp] theorem State.setTagMap_cringJobSize (r : RingId) (x : List TagEntry) : (s.setTagMap r x).cringJobSize = s.cringJobSize := rfl

@[simp] theorem State.setTagMap_cringRptSize (r : RingId) (x : List TagEntry) : (s.setTagMap r x).cringRptSize = s.cringRptSize := rfl

@[simp] theorem State.setTagMap_accesses (r : RingId) (x : List TagEntry) : (s.setTagMap r x).accesses = s.accesses := rfl

@[simp] theorem State.setTagMap_readData (r : RingId) (x : List TagEntry) : (s.setTagMap r x).readData = s.readData := rfl

@[simp] theorem State.setTagMap_timebase (r : RingId) (x : List TagEntry) : (s.setTagMap r x).timebase = s.timebase := rfl

@[simp] theorem State.setTagMap_timeHi (r : RingId) (x : List TagEntry) : (s.setTagMap r x).timeHi = s.timeHi := rfl

@[simp] theorem State.setTagMap_line (r : RingId) (x : List TagEntry) : (s.setTagMap r x).line = s.line := rfl

@[simp] theorem State.setTagMap_lanes (r : RingId) (x : List TagEntry) : (s.setTagMap r x).lanes = s.lanes := rfl

@[simp] theorem State.setTagMap_loanMsgs (r : RingId) (x : List TagEntry) : (s.setTagMap r x).loanMsgs = s.loanMsgs := rfl

@[simp] theorem State.setTagMap_slots (r : RingId) (x : List TagEntry) : (s.setTagMap r x).slots = s.slots := rfl

@[simp] theorem State.setTagMap_jobRings (r : RingId) (x : List TagEntry) : (s.setTagMap r x).jobRings = s.jobRings := rfl

@[simp] theorem State.setTagMap_pointer (r : RingId) (x : List TagEntry) : (s.setTagMap r x).pointer = s.pointer := rfl

@[simp] theorem State.setTagMap_fetch (r : RingId) (x : List TagEntry) : (s.setTagMap r x).fetch = s.fetch := rfl

@[simp] theorem State.setTagMap_posters (r : RingId) (x : List TagEntry) : (s.setTagMap r x).posters = s.posters := rfl

@[simp] theorem State.setTagMap_events (r : RingId) (x : List TagEntry) : (s.setTagMap r x).events = s.events := rfl

@[simp] theorem State.setTagMap_eventsLost (r : RingId) (x : List TagEntry) : (s.setTagMap r x).eventsLost = s.eventsLost := rfl

@[simp] theorem State.setTagMap_messages (r : RingId) (x : List TagEntry) : (s.setTagMap r x).messages = s.messages := rfl

@[simp] theorem State.setTagMap_port (r : RingId) (x : List TagEntry) : (s.setTagMap r x).port = s.port := rfl

@[simp] theorem State.setTagMap_pending (r : RingId) (x : List TagEntry) : (s.setTagMap r x).pending = s.pending := rfl

@[simp] theorem State.setTagMap_lane (r : RingId) (x : List TagEntry) (l' : LaneId) :
    (s.setTagMap r x).lane l' = s.lane l' := rfl

@[simp] theorem State.setTagMap_slot (r : RingId) (x : List TagEntry) (j' : SlotId) :
    (s.setTagMap r x).slot j' = s.slot j' := rfl

@[simp] theorem State.setTagMap_jobRing (r : RingId) (x : List TagEntry) (r' : RingId) :
    (s.setTagMap r x).jobRing r' = s.jobRing r' := rfl

@[simp] theorem State.setTagMap_poster (r : RingId) (x : List TagEntry) (n' : RingId) :
    (s.setTagMap r x).poster n' = s.poster n' := rfl

@[simp] theorem State.tagMap_setTagMap_self (r : RingId) (x : List TagEntry) : (s.setTagMap r x).tagMap r = x := by
  simp [State.setTagMap, State.tagMap]

theorem State.tagMap_setTagMap_ne {r r' : RingId} (x : List TagEntry) (h : r' ≠ r) :
    (s.setTagMap r x).tagMap r' = s.tagMap r' := by
  have : r.val ≠ r'.val := fun e => h (Fin.ext e.symm)
  simp [State.setTagMap, State.tagMap, Vector.getElem_set_ne, this]

theorem State.tagMap_setTagMap (r r' : RingId) (x : List TagEntry) :
    (s.setTagMap r x).tagMap r' = if r' = r then x else s.tagMap r' := by
  by_cases h : r' = r
  · subst h; simp
  · simp [h, State.tagMap_setTagMap_ne]

@[simp] theorem State.setTagMap_tagMap_self (r : RingId) : s.setTagMap r (s.tagMap r) = s := by
  simp [State.setTagMap, State.tagMap]

@[simp] theorem State.setTagMap_setTagMap (r : RingId) (x y : List TagEntry) : (s.setTagMap r x).setTagMap r y = s.setTagMap r y := by
  simp [State.setTagMap]

/-! ### modLane -/

@[simp] theorem State.modLane_ctl (l : LaneId) (f : Lane → Lane) : (s.modLane l f).ctl = s.ctl := rfl

@[simp] theorem State.modLane_interruptEnable (l : LaneId) (f : Lane → Lane) : (s.modLane l f).interruptEnable = s.interruptEnable := rfl

@[simp] theorem State.modLane_configError (l : LaneId) (f : Lane → Lane) : (s.modLane l f).configError = s.configError := rfl

@[simp] theorem State.modLane_fatalCause (l : LaneId) (f : Lane → Lane) : (s.modLane l f).fatalCause = s.fatalCause := rfl

@[simp] theorem State.modLane_cringJobBase (l : LaneId) (f : Lane → Lane) : (s.modLane l f).cringJobBase = s.cringJobBase := rfl

@[simp] theorem State.modLane_cringRptBase (l : LaneId) (f : Lane → Lane) : (s.modLane l f).cringRptBase = s.cringRptBase := rfl

@[simp] theorem State.modLane_cringJobSize (l : LaneId) (f : Lane → Lane) : (s.modLane l f).cringJobSize = s.cringJobSize := rfl

@[simp] theorem State.modLane_cringRptSize (l : LaneId) (f : Lane → Lane) : (s.modLane l f).cringRptSize = s.cringRptSize := rfl

@[simp] theorem State.modLane_accesses (l : LaneId) (f : Lane → Lane) : (s.modLane l f).accesses = s.accesses := rfl

@[simp] theorem State.modLane_readData (l : LaneId) (f : Lane → Lane) : (s.modLane l f).readData = s.readData := rfl

@[simp] theorem State.modLane_timebase (l : LaneId) (f : Lane → Lane) : (s.modLane l f).timebase = s.timebase := rfl

@[simp] theorem State.modLane_timeHi (l : LaneId) (f : Lane → Lane) : (s.modLane l f).timeHi = s.timeHi := rfl

@[simp] theorem State.modLane_line (l : LaneId) (f : Lane → Lane) : (s.modLane l f).line = s.line := rfl

@[simp] theorem State.modLane_loanMsgs (l : LaneId) (f : Lane → Lane) : (s.modLane l f).loanMsgs = s.loanMsgs := rfl

@[simp] theorem State.modLane_slots (l : LaneId) (f : Lane → Lane) : (s.modLane l f).slots = s.slots := rfl

@[simp] theorem State.modLane_tagMaps (l : LaneId) (f : Lane → Lane) : (s.modLane l f).tagMaps = s.tagMaps := rfl

@[simp] theorem State.modLane_jobRings (l : LaneId) (f : Lane → Lane) : (s.modLane l f).jobRings = s.jobRings := rfl

@[simp] theorem State.modLane_pointer (l : LaneId) (f : Lane → Lane) : (s.modLane l f).pointer = s.pointer := rfl

@[simp] theorem State.modLane_fetch (l : LaneId) (f : Lane → Lane) : (s.modLane l f).fetch = s.fetch := rfl

@[simp] theorem State.modLane_posters (l : LaneId) (f : Lane → Lane) : (s.modLane l f).posters = s.posters := rfl

@[simp] theorem State.modLane_events (l : LaneId) (f : Lane → Lane) : (s.modLane l f).events = s.events := rfl

@[simp] theorem State.modLane_eventsLost (l : LaneId) (f : Lane → Lane) : (s.modLane l f).eventsLost = s.eventsLost := rfl

@[simp] theorem State.modLane_messages (l : LaneId) (f : Lane → Lane) : (s.modLane l f).messages = s.messages := rfl

@[simp] theorem State.modLane_port (l : LaneId) (f : Lane → Lane) : (s.modLane l f).port = s.port := rfl

@[simp] theorem State.modLane_pending (l : LaneId) (f : Lane → Lane) : (s.modLane l f).pending = s.pending := rfl

@[simp] theorem State.modLane_slot (l : LaneId) (f : Lane → Lane) (j' : SlotId) :
    (s.modLane l f).slot j' = s.slot j' := rfl

@[simp] theorem State.modLane_jobRing (l : LaneId) (f : Lane → Lane) (r' : RingId) :
    (s.modLane l f).jobRing r' = s.jobRing r' := rfl

@[simp] theorem State.modLane_poster (l : LaneId) (f : Lane → Lane) (n' : RingId) :
    (s.modLane l f).poster n' = s.poster n' := rfl

@[simp] theorem State.modLane_tagMap (l : LaneId) (f : Lane → Lane) (r' : RingId) :
    (s.modLane l f).tagMap r' = s.tagMap r' := rfl

@[simp] theorem State.lane_modLane_self (l : LaneId) (f : Lane → Lane) : (s.modLane l f).lane l = f (s.lane l) := by
  simp [State.modLane]

theorem State.lane_modLane_ne {l l' : LaneId} (f : Lane → Lane) (h : l' ≠ l) :
    (s.modLane l f).lane l' = s.lane l' := by
  simp [State.modLane, State.lane_setLane_ne, h]

theorem State.lane_modLane (l l' : LaneId) (f : Lane → Lane) :
    (s.modLane l f).lane l' = if l' = l then f (s.lane l) else s.lane l' := by
  simp [State.modLane, State.lane_setLane]

@[simp] theorem State.modLane_modLane (l : LaneId) (f g : Lane → Lane) :
    (s.modLane l f).modLane l g = s.modLane l fun x => g (f x) := by
  simp [State.modLane]

/-! ### modSlot -/

@[simp] theorem State.modSlot_ctl (j : SlotId) (f : Slot → Slot) : (s.modSlot j f).ctl = s.ctl := rfl

@[simp] theorem State.modSlot_interruptEnable (j : SlotId) (f : Slot → Slot) : (s.modSlot j f).interruptEnable = s.interruptEnable := rfl

@[simp] theorem State.modSlot_configError (j : SlotId) (f : Slot → Slot) : (s.modSlot j f).configError = s.configError := rfl

@[simp] theorem State.modSlot_fatalCause (j : SlotId) (f : Slot → Slot) : (s.modSlot j f).fatalCause = s.fatalCause := rfl

@[simp] theorem State.modSlot_cringJobBase (j : SlotId) (f : Slot → Slot) : (s.modSlot j f).cringJobBase = s.cringJobBase := rfl

@[simp] theorem State.modSlot_cringRptBase (j : SlotId) (f : Slot → Slot) : (s.modSlot j f).cringRptBase = s.cringRptBase := rfl

@[simp] theorem State.modSlot_cringJobSize (j : SlotId) (f : Slot → Slot) : (s.modSlot j f).cringJobSize = s.cringJobSize := rfl

@[simp] theorem State.modSlot_cringRptSize (j : SlotId) (f : Slot → Slot) : (s.modSlot j f).cringRptSize = s.cringRptSize := rfl

@[simp] theorem State.modSlot_accesses (j : SlotId) (f : Slot → Slot) : (s.modSlot j f).accesses = s.accesses := rfl

@[simp] theorem State.modSlot_readData (j : SlotId) (f : Slot → Slot) : (s.modSlot j f).readData = s.readData := rfl

@[simp] theorem State.modSlot_timebase (j : SlotId) (f : Slot → Slot) : (s.modSlot j f).timebase = s.timebase := rfl

@[simp] theorem State.modSlot_timeHi (j : SlotId) (f : Slot → Slot) : (s.modSlot j f).timeHi = s.timeHi := rfl

@[simp] theorem State.modSlot_line (j : SlotId) (f : Slot → Slot) : (s.modSlot j f).line = s.line := rfl

@[simp] theorem State.modSlot_lanes (j : SlotId) (f : Slot → Slot) : (s.modSlot j f).lanes = s.lanes := rfl

@[simp] theorem State.modSlot_loanMsgs (j : SlotId) (f : Slot → Slot) : (s.modSlot j f).loanMsgs = s.loanMsgs := rfl

@[simp] theorem State.modSlot_tagMaps (j : SlotId) (f : Slot → Slot) : (s.modSlot j f).tagMaps = s.tagMaps := rfl

@[simp] theorem State.modSlot_jobRings (j : SlotId) (f : Slot → Slot) : (s.modSlot j f).jobRings = s.jobRings := rfl

@[simp] theorem State.modSlot_pointer (j : SlotId) (f : Slot → Slot) : (s.modSlot j f).pointer = s.pointer := rfl

@[simp] theorem State.modSlot_fetch (j : SlotId) (f : Slot → Slot) : (s.modSlot j f).fetch = s.fetch := rfl

@[simp] theorem State.modSlot_posters (j : SlotId) (f : Slot → Slot) : (s.modSlot j f).posters = s.posters := rfl

@[simp] theorem State.modSlot_events (j : SlotId) (f : Slot → Slot) : (s.modSlot j f).events = s.events := rfl

@[simp] theorem State.modSlot_eventsLost (j : SlotId) (f : Slot → Slot) : (s.modSlot j f).eventsLost = s.eventsLost := rfl

@[simp] theorem State.modSlot_messages (j : SlotId) (f : Slot → Slot) : (s.modSlot j f).messages = s.messages := rfl

@[simp] theorem State.modSlot_port (j : SlotId) (f : Slot → Slot) : (s.modSlot j f).port = s.port := rfl

@[simp] theorem State.modSlot_pending (j : SlotId) (f : Slot → Slot) : (s.modSlot j f).pending = s.pending := rfl

@[simp] theorem State.modSlot_lane (j : SlotId) (f : Slot → Slot) (l' : LaneId) :
    (s.modSlot j f).lane l' = s.lane l' := rfl

@[simp] theorem State.modSlot_jobRing (j : SlotId) (f : Slot → Slot) (r' : RingId) :
    (s.modSlot j f).jobRing r' = s.jobRing r' := rfl

@[simp] theorem State.modSlot_poster (j : SlotId) (f : Slot → Slot) (n' : RingId) :
    (s.modSlot j f).poster n' = s.poster n' := rfl

@[simp] theorem State.modSlot_tagMap (j : SlotId) (f : Slot → Slot) (r' : RingId) :
    (s.modSlot j f).tagMap r' = s.tagMap r' := rfl

@[simp] theorem State.slot_modSlot_self (j : SlotId) (f : Slot → Slot) : (s.modSlot j f).slot j = f (s.slot j) := by
  simp [State.modSlot]

theorem State.slot_modSlot_ne {j j' : SlotId} (f : Slot → Slot) (h : j' ≠ j) :
    (s.modSlot j f).slot j' = s.slot j' := by
  simp [State.modSlot, State.slot_setSlot_ne, h]

theorem State.slot_modSlot (j j' : SlotId) (f : Slot → Slot) :
    (s.modSlot j f).slot j' = if j' = j then f (s.slot j) else s.slot j' := by
  simp [State.modSlot, State.slot_setSlot]

@[simp] theorem State.modSlot_modSlot (j : SlotId) (f g : Slot → Slot) :
    (s.modSlot j f).modSlot j g = s.modSlot j fun x => g (f x) := by
  simp [State.modSlot]

/-! ### modJobRing -/

@[simp] theorem State.modJobRing_ctl (r : RingId) (f : JobRing → JobRing) : (s.modJobRing r f).ctl = s.ctl := rfl

@[simp] theorem State.modJobRing_interruptEnable (r : RingId) (f : JobRing → JobRing) : (s.modJobRing r f).interruptEnable = s.interruptEnable := rfl

@[simp] theorem State.modJobRing_configError (r : RingId) (f : JobRing → JobRing) : (s.modJobRing r f).configError = s.configError := rfl

@[simp] theorem State.modJobRing_fatalCause (r : RingId) (f : JobRing → JobRing) : (s.modJobRing r f).fatalCause = s.fatalCause := rfl

@[simp] theorem State.modJobRing_cringJobBase (r : RingId) (f : JobRing → JobRing) : (s.modJobRing r f).cringJobBase = s.cringJobBase := rfl

@[simp] theorem State.modJobRing_cringRptBase (r : RingId) (f : JobRing → JobRing) : (s.modJobRing r f).cringRptBase = s.cringRptBase := rfl

@[simp] theorem State.modJobRing_cringJobSize (r : RingId) (f : JobRing → JobRing) : (s.modJobRing r f).cringJobSize = s.cringJobSize := rfl

@[simp] theorem State.modJobRing_cringRptSize (r : RingId) (f : JobRing → JobRing) : (s.modJobRing r f).cringRptSize = s.cringRptSize := rfl

@[simp] theorem State.modJobRing_accesses (r : RingId) (f : JobRing → JobRing) : (s.modJobRing r f).accesses = s.accesses := rfl

@[simp] theorem State.modJobRing_readData (r : RingId) (f : JobRing → JobRing) : (s.modJobRing r f).readData = s.readData := rfl

@[simp] theorem State.modJobRing_timebase (r : RingId) (f : JobRing → JobRing) : (s.modJobRing r f).timebase = s.timebase := rfl

@[simp] theorem State.modJobRing_timeHi (r : RingId) (f : JobRing → JobRing) : (s.modJobRing r f).timeHi = s.timeHi := rfl

@[simp] theorem State.modJobRing_line (r : RingId) (f : JobRing → JobRing) : (s.modJobRing r f).line = s.line := rfl

@[simp] theorem State.modJobRing_lanes (r : RingId) (f : JobRing → JobRing) : (s.modJobRing r f).lanes = s.lanes := rfl

@[simp] theorem State.modJobRing_loanMsgs (r : RingId) (f : JobRing → JobRing) : (s.modJobRing r f).loanMsgs = s.loanMsgs := rfl

@[simp] theorem State.modJobRing_slots (r : RingId) (f : JobRing → JobRing) : (s.modJobRing r f).slots = s.slots := rfl

@[simp] theorem State.modJobRing_tagMaps (r : RingId) (f : JobRing → JobRing) : (s.modJobRing r f).tagMaps = s.tagMaps := rfl

@[simp] theorem State.modJobRing_pointer (r : RingId) (f : JobRing → JobRing) : (s.modJobRing r f).pointer = s.pointer := rfl

@[simp] theorem State.modJobRing_fetch (r : RingId) (f : JobRing → JobRing) : (s.modJobRing r f).fetch = s.fetch := rfl

@[simp] theorem State.modJobRing_posters (r : RingId) (f : JobRing → JobRing) : (s.modJobRing r f).posters = s.posters := rfl

@[simp] theorem State.modJobRing_events (r : RingId) (f : JobRing → JobRing) : (s.modJobRing r f).events = s.events := rfl

@[simp] theorem State.modJobRing_eventsLost (r : RingId) (f : JobRing → JobRing) : (s.modJobRing r f).eventsLost = s.eventsLost := rfl

@[simp] theorem State.modJobRing_messages (r : RingId) (f : JobRing → JobRing) : (s.modJobRing r f).messages = s.messages := rfl

@[simp] theorem State.modJobRing_port (r : RingId) (f : JobRing → JobRing) : (s.modJobRing r f).port = s.port := rfl

@[simp] theorem State.modJobRing_pending (r : RingId) (f : JobRing → JobRing) : (s.modJobRing r f).pending = s.pending := rfl

@[simp] theorem State.modJobRing_lane (r : RingId) (f : JobRing → JobRing) (l' : LaneId) :
    (s.modJobRing r f).lane l' = s.lane l' := rfl

@[simp] theorem State.modJobRing_slot (r : RingId) (f : JobRing → JobRing) (j' : SlotId) :
    (s.modJobRing r f).slot j' = s.slot j' := rfl

@[simp] theorem State.modJobRing_poster (r : RingId) (f : JobRing → JobRing) (n' : RingId) :
    (s.modJobRing r f).poster n' = s.poster n' := rfl

@[simp] theorem State.modJobRing_tagMap (r : RingId) (f : JobRing → JobRing) (r' : RingId) :
    (s.modJobRing r f).tagMap r' = s.tagMap r' := rfl

@[simp] theorem State.jobRing_modJobRing_self (r : RingId) (f : JobRing → JobRing) : (s.modJobRing r f).jobRing r = f (s.jobRing r) := by
  simp [State.modJobRing]

theorem State.jobRing_modJobRing_ne {r r' : RingId} (f : JobRing → JobRing) (h : r' ≠ r) :
    (s.modJobRing r f).jobRing r' = s.jobRing r' := by
  simp [State.modJobRing, State.jobRing_setJobRing_ne, h]

theorem State.jobRing_modJobRing (r r' : RingId) (f : JobRing → JobRing) :
    (s.modJobRing r f).jobRing r' = if r' = r then f (s.jobRing r) else s.jobRing r' := by
  simp [State.modJobRing, State.jobRing_setJobRing]

@[simp] theorem State.modJobRing_modJobRing (r : RingId) (f g : JobRing → JobRing) :
    (s.modJobRing r f).modJobRing r g = s.modJobRing r fun x => g (f x) := by
  simp [State.modJobRing]

/-! ### modPoster -/

@[simp] theorem State.modPoster_ctl (n : RingId) (f : Poster → Poster) : (s.modPoster n f).ctl = s.ctl := rfl

@[simp] theorem State.modPoster_interruptEnable (n : RingId) (f : Poster → Poster) : (s.modPoster n f).interruptEnable = s.interruptEnable := rfl

@[simp] theorem State.modPoster_configError (n : RingId) (f : Poster → Poster) : (s.modPoster n f).configError = s.configError := rfl

@[simp] theorem State.modPoster_fatalCause (n : RingId) (f : Poster → Poster) : (s.modPoster n f).fatalCause = s.fatalCause := rfl

@[simp] theorem State.modPoster_cringJobBase (n : RingId) (f : Poster → Poster) : (s.modPoster n f).cringJobBase = s.cringJobBase := rfl

@[simp] theorem State.modPoster_cringRptBase (n : RingId) (f : Poster → Poster) : (s.modPoster n f).cringRptBase = s.cringRptBase := rfl

@[simp] theorem State.modPoster_cringJobSize (n : RingId) (f : Poster → Poster) : (s.modPoster n f).cringJobSize = s.cringJobSize := rfl

@[simp] theorem State.modPoster_cringRptSize (n : RingId) (f : Poster → Poster) : (s.modPoster n f).cringRptSize = s.cringRptSize := rfl

@[simp] theorem State.modPoster_accesses (n : RingId) (f : Poster → Poster) : (s.modPoster n f).accesses = s.accesses := rfl

@[simp] theorem State.modPoster_readData (n : RingId) (f : Poster → Poster) : (s.modPoster n f).readData = s.readData := rfl

@[simp] theorem State.modPoster_timebase (n : RingId) (f : Poster → Poster) : (s.modPoster n f).timebase = s.timebase := rfl

@[simp] theorem State.modPoster_timeHi (n : RingId) (f : Poster → Poster) : (s.modPoster n f).timeHi = s.timeHi := rfl

@[simp] theorem State.modPoster_line (n : RingId) (f : Poster → Poster) : (s.modPoster n f).line = s.line := rfl

@[simp] theorem State.modPoster_lanes (n : RingId) (f : Poster → Poster) : (s.modPoster n f).lanes = s.lanes := rfl

@[simp] theorem State.modPoster_loanMsgs (n : RingId) (f : Poster → Poster) : (s.modPoster n f).loanMsgs = s.loanMsgs := rfl

@[simp] theorem State.modPoster_slots (n : RingId) (f : Poster → Poster) : (s.modPoster n f).slots = s.slots := rfl

@[simp] theorem State.modPoster_tagMaps (n : RingId) (f : Poster → Poster) : (s.modPoster n f).tagMaps = s.tagMaps := rfl

@[simp] theorem State.modPoster_jobRings (n : RingId) (f : Poster → Poster) : (s.modPoster n f).jobRings = s.jobRings := rfl

@[simp] theorem State.modPoster_pointer (n : RingId) (f : Poster → Poster) : (s.modPoster n f).pointer = s.pointer := rfl

@[simp] theorem State.modPoster_fetch (n : RingId) (f : Poster → Poster) : (s.modPoster n f).fetch = s.fetch := rfl

@[simp] theorem State.modPoster_events (n : RingId) (f : Poster → Poster) : (s.modPoster n f).events = s.events := rfl

@[simp] theorem State.modPoster_eventsLost (n : RingId) (f : Poster → Poster) : (s.modPoster n f).eventsLost = s.eventsLost := rfl

@[simp] theorem State.modPoster_messages (n : RingId) (f : Poster → Poster) : (s.modPoster n f).messages = s.messages := rfl

@[simp] theorem State.modPoster_port (n : RingId) (f : Poster → Poster) : (s.modPoster n f).port = s.port := rfl

@[simp] theorem State.modPoster_pending (n : RingId) (f : Poster → Poster) : (s.modPoster n f).pending = s.pending := rfl

@[simp] theorem State.modPoster_lane (n : RingId) (f : Poster → Poster) (l' : LaneId) :
    (s.modPoster n f).lane l' = s.lane l' := rfl

@[simp] theorem State.modPoster_slot (n : RingId) (f : Poster → Poster) (j' : SlotId) :
    (s.modPoster n f).slot j' = s.slot j' := rfl

@[simp] theorem State.modPoster_jobRing (n : RingId) (f : Poster → Poster) (r' : RingId) :
    (s.modPoster n f).jobRing r' = s.jobRing r' := rfl

@[simp] theorem State.modPoster_tagMap (n : RingId) (f : Poster → Poster) (r' : RingId) :
    (s.modPoster n f).tagMap r' = s.tagMap r' := rfl

@[simp] theorem State.poster_modPoster_self (n : RingId) (f : Poster → Poster) : (s.modPoster n f).poster n = f (s.poster n) := by
  simp [State.modPoster]

theorem State.poster_modPoster_ne {n n' : RingId} (f : Poster → Poster) (h : n' ≠ n) :
    (s.modPoster n f).poster n' = s.poster n' := by
  simp [State.modPoster, State.poster_setPoster_ne, h]

theorem State.poster_modPoster (n n' : RingId) (f : Poster → Poster) :
    (s.modPoster n f).poster n' = if n' = n then f (s.poster n) else s.poster n' := by
  simp [State.modPoster, State.poster_setPoster]

@[simp] theorem State.modPoster_modPoster (n : RingId) (f g : Poster → Poster) :
    (s.modPoster n f).modPoster n g = s.modPoster n fun x => g (f x) := by
  simp [State.modPoster]

/-! ### issueAccess -/

@[simp] theorem issueAccess_ctl (a : Access) : (issueAccess a s).ctl = s.ctl := rfl

@[simp] theorem issueAccess_interruptEnable (a : Access) : (issueAccess a s).interruptEnable = s.interruptEnable := rfl

@[simp] theorem issueAccess_configError (a : Access) : (issueAccess a s).configError = s.configError := rfl

@[simp] theorem issueAccess_fatalCause (a : Access) : (issueAccess a s).fatalCause = s.fatalCause := rfl

@[simp] theorem issueAccess_cringJobBase (a : Access) : (issueAccess a s).cringJobBase = s.cringJobBase := rfl

@[simp] theorem issueAccess_cringRptBase (a : Access) : (issueAccess a s).cringRptBase = s.cringRptBase := rfl

@[simp] theorem issueAccess_cringJobSize (a : Access) : (issueAccess a s).cringJobSize = s.cringJobSize := rfl

@[simp] theorem issueAccess_cringRptSize (a : Access) : (issueAccess a s).cringRptSize = s.cringRptSize := rfl

@[simp] theorem issueAccess_readData (a : Access) : (issueAccess a s).readData = s.readData := rfl

@[simp] theorem issueAccess_timebase (a : Access) : (issueAccess a s).timebase = s.timebase := rfl

@[simp] theorem issueAccess_timeHi (a : Access) : (issueAccess a s).timeHi = s.timeHi := rfl

@[simp] theorem issueAccess_line (a : Access) : (issueAccess a s).line = s.line := rfl

@[simp] theorem issueAccess_lanes (a : Access) : (issueAccess a s).lanes = s.lanes := rfl

@[simp] theorem issueAccess_loanMsgs (a : Access) : (issueAccess a s).loanMsgs = s.loanMsgs := rfl

@[simp] theorem issueAccess_slots (a : Access) : (issueAccess a s).slots = s.slots := rfl

@[simp] theorem issueAccess_tagMaps (a : Access) : (issueAccess a s).tagMaps = s.tagMaps := rfl

@[simp] theorem issueAccess_jobRings (a : Access) : (issueAccess a s).jobRings = s.jobRings := rfl

@[simp] theorem issueAccess_pointer (a : Access) : (issueAccess a s).pointer = s.pointer := rfl

@[simp] theorem issueAccess_fetch (a : Access) : (issueAccess a s).fetch = s.fetch := rfl

@[simp] theorem issueAccess_posters (a : Access) : (issueAccess a s).posters = s.posters := rfl

@[simp] theorem issueAccess_events (a : Access) : (issueAccess a s).events = s.events := rfl

@[simp] theorem issueAccess_eventsLost (a : Access) : (issueAccess a s).eventsLost = s.eventsLost := rfl

@[simp] theorem issueAccess_messages (a : Access) : (issueAccess a s).messages = s.messages := rfl

@[simp] theorem issueAccess_port (a : Access) : (issueAccess a s).port = s.port := rfl

@[simp] theorem issueAccess_pending (a : Access) : (issueAccess a s).pending = s.pending := rfl

@[simp] theorem issueAccess_lane (a : Access) (l : LaneId) : (issueAccess a s).lane l = s.lane l := rfl

@[simp] theorem issueAccess_slot (a : Access) (j : SlotId) : (issueAccess a s).slot j = s.slot j := rfl

@[simp] theorem issueAccess_jobRing (a : Access) (r : RingId) : (issueAccess a s).jobRing r = s.jobRing r := rfl

@[simp] theorem issueAccess_poster (a : Access) (n : RingId) : (issueAccess a s).poster n = s.poster n := rfl

@[simp] theorem issueAccess_tagMap (a : Access) (r : RingId) : (issueAccess a s).tagMap r = s.tagMap r := rfl

/-! ### finishAccess -/

@[simp] theorem finishAccess_ctl (a : Access) : (finishAccess a s).ctl = s.ctl := rfl

@[simp] theorem finishAccess_interruptEnable (a : Access) : (finishAccess a s).interruptEnable = s.interruptEnable := rfl

@[simp] theorem finishAccess_configError (a : Access) : (finishAccess a s).configError = s.configError := rfl

@[simp] theorem finishAccess_fatalCause (a : Access) : (finishAccess a s).fatalCause = s.fatalCause := rfl

@[simp] theorem finishAccess_cringJobBase (a : Access) : (finishAccess a s).cringJobBase = s.cringJobBase := rfl

@[simp] theorem finishAccess_cringRptBase (a : Access) : (finishAccess a s).cringRptBase = s.cringRptBase := rfl

@[simp] theorem finishAccess_cringJobSize (a : Access) : (finishAccess a s).cringJobSize = s.cringJobSize := rfl

@[simp] theorem finishAccess_cringRptSize (a : Access) : (finishAccess a s).cringRptSize = s.cringRptSize := rfl

@[simp] theorem finishAccess_readData (a : Access) : (finishAccess a s).readData = s.readData := rfl

@[simp] theorem finishAccess_timebase (a : Access) : (finishAccess a s).timebase = s.timebase := rfl

@[simp] theorem finishAccess_timeHi (a : Access) : (finishAccess a s).timeHi = s.timeHi := rfl

@[simp] theorem finishAccess_line (a : Access) : (finishAccess a s).line = s.line := rfl

@[simp] theorem finishAccess_lanes (a : Access) : (finishAccess a s).lanes = s.lanes := rfl

@[simp] theorem finishAccess_loanMsgs (a : Access) : (finishAccess a s).loanMsgs = s.loanMsgs := rfl

@[simp] theorem finishAccess_slots (a : Access) : (finishAccess a s).slots = s.slots := rfl

@[simp] theorem finishAccess_tagMaps (a : Access) : (finishAccess a s).tagMaps = s.tagMaps := rfl

@[simp] theorem finishAccess_jobRings (a : Access) : (finishAccess a s).jobRings = s.jobRings := rfl

@[simp] theorem finishAccess_pointer (a : Access) : (finishAccess a s).pointer = s.pointer := rfl

@[simp] theorem finishAccess_fetch (a : Access) : (finishAccess a s).fetch = s.fetch := rfl

@[simp] theorem finishAccess_posters (a : Access) : (finishAccess a s).posters = s.posters := rfl

@[simp] theorem finishAccess_events (a : Access) : (finishAccess a s).events = s.events := rfl

@[simp] theorem finishAccess_eventsLost (a : Access) : (finishAccess a s).eventsLost = s.eventsLost := rfl

@[simp] theorem finishAccess_messages (a : Access) : (finishAccess a s).messages = s.messages := rfl

@[simp] theorem finishAccess_port (a : Access) : (finishAccess a s).port = s.port := rfl

@[simp] theorem finishAccess_pending (a : Access) : (finishAccess a s).pending = s.pending := rfl

@[simp] theorem finishAccess_lane (a : Access) (l : LaneId) : (finishAccess a s).lane l = s.lane l := rfl

@[simp] theorem finishAccess_slot (a : Access) (j : SlotId) : (finishAccess a s).slot j = s.slot j := rfl

@[simp] theorem finishAccess_jobRing (a : Access) (r : RingId) : (finishAccess a s).jobRing r = s.jobRing r := rfl

@[simp] theorem finishAccess_poster (a : Access) (n : RingId) : (finishAccess a s).poster n = s.poster n := rfl

@[simp] theorem finishAccess_tagMap (a : Access) (r : RingId) : (finishAccess a s).tagMap r = s.tagMap r := rfl

/-! ### Loans -/

/-- Two loans are named alike when their primary lanes, slots and loan numbers agree (R54). -/
@[simp] theorem Loan.names_iff (a b : Loan) :
    a.names b = true ↔ a.primary = b.primary ∧ a.slot = b.slot ∧ a.number = b.number := by
  simp [Loan.names, and_assoc]

@[simp] theorem Loan.names_self (a : Loan) : a.names a = true := by simp

/-! ### sendLoan -/

@[simp] theorem sendLoan_ctl (m : LoanMsg) : (sendLoan m s).ctl = s.ctl := rfl

@[simp] theorem sendLoan_interruptEnable (m : LoanMsg) : (sendLoan m s).interruptEnable = s.interruptEnable := rfl

@[simp] theorem sendLoan_configError (m : LoanMsg) : (sendLoan m s).configError = s.configError := rfl

@[simp] theorem sendLoan_fatalCause (m : LoanMsg) : (sendLoan m s).fatalCause = s.fatalCause := rfl

@[simp] theorem sendLoan_cringJobBase (m : LoanMsg) : (sendLoan m s).cringJobBase = s.cringJobBase := rfl

@[simp] theorem sendLoan_cringRptBase (m : LoanMsg) : (sendLoan m s).cringRptBase = s.cringRptBase := rfl

@[simp] theorem sendLoan_cringJobSize (m : LoanMsg) : (sendLoan m s).cringJobSize = s.cringJobSize := rfl

@[simp] theorem sendLoan_cringRptSize (m : LoanMsg) : (sendLoan m s).cringRptSize = s.cringRptSize := rfl

@[simp] theorem sendLoan_accesses (m : LoanMsg) : (sendLoan m s).accesses = s.accesses := rfl

@[simp] theorem sendLoan_readData (m : LoanMsg) : (sendLoan m s).readData = s.readData := rfl

@[simp] theorem sendLoan_timebase (m : LoanMsg) : (sendLoan m s).timebase = s.timebase := rfl

@[simp] theorem sendLoan_timeHi (m : LoanMsg) : (sendLoan m s).timeHi = s.timeHi := rfl

@[simp] theorem sendLoan_line (m : LoanMsg) : (sendLoan m s).line = s.line := rfl

@[simp] theorem sendLoan_lanes (m : LoanMsg) : (sendLoan m s).lanes = s.lanes := rfl

@[simp] theorem sendLoan_slots (m : LoanMsg) : (sendLoan m s).slots = s.slots := rfl

@[simp] theorem sendLoan_tagMaps (m : LoanMsg) : (sendLoan m s).tagMaps = s.tagMaps := rfl

@[simp] theorem sendLoan_jobRings (m : LoanMsg) : (sendLoan m s).jobRings = s.jobRings := rfl

@[simp] theorem sendLoan_pointer (m : LoanMsg) : (sendLoan m s).pointer = s.pointer := rfl

@[simp] theorem sendLoan_fetch (m : LoanMsg) : (sendLoan m s).fetch = s.fetch := rfl

@[simp] theorem sendLoan_posters (m : LoanMsg) : (sendLoan m s).posters = s.posters := rfl

@[simp] theorem sendLoan_events (m : LoanMsg) : (sendLoan m s).events = s.events := rfl

@[simp] theorem sendLoan_eventsLost (m : LoanMsg) : (sendLoan m s).eventsLost = s.eventsLost := rfl

@[simp] theorem sendLoan_messages (m : LoanMsg) : (sendLoan m s).messages = s.messages := rfl

@[simp] theorem sendLoan_port (m : LoanMsg) : (sendLoan m s).port = s.port := rfl

@[simp] theorem sendLoan_pending (m : LoanMsg) : (sendLoan m s).pending = s.pending := rfl

@[simp] theorem sendLoan_lane (m : LoanMsg) (l : LaneId) : (sendLoan m s).lane l = s.lane l := rfl

@[simp] theorem sendLoan_slot (m : LoanMsg) (j : SlotId) : (sendLoan m s).slot j = s.slot j := rfl

@[simp] theorem sendLoan_jobRing (m : LoanMsg) (r : RingId) : (sendLoan m s).jobRing r = s.jobRing r := rfl

@[simp] theorem sendLoan_poster (m : LoanMsg) (n : RingId) : (sendLoan m s).poster n = s.poster n := rfl

@[simp] theorem sendLoan_tagMap (m : LoanMsg) (r : RingId) : (sendLoan m s).tagMap r = s.tagMap r := rfl

end

end Sys2Proof.Machine
end

