-- ==== Sys2Proof/Laws/Frames.lean ====
section
/-! SUPPORT. What the shared operations of the machine leave as it was: none of them touches the controller, the register
window, the timebase, the lines, the outstanding accesses, the Host Write Port or the commands that wait
(`State.SameOutside`), and the decisions that close an event touch of these only the accesses and the port
(`settle_sameController`). -/

namespace Sys2Proof.Machine

/-- Controller, register window, timebase, lines and waiting commands of the two states are the same. -/
structure State.SameController (s t : State) : Prop where
  ctl : t.ctl = s.ctl
  interruptEnable : t.interruptEnable = s.interruptEnable
  configError : t.configError = s.configError
  fatalCause : t.fatalCause = s.fatalCause
  cringJobBase : t.cringJobBase = s.cringJobBase
  cringRptBase : t.cringRptBase = s.cringRptBase
  cringJobSize : t.cringJobSize = s.cringJobSize
  cringRptSize : t.cringRptSize = s.cringRptSize
  readData : t.readData = s.readData
  timebase : t.timebase = s.timebase
  timeHi : t.timeHi = s.timeHi
  line : t.line = s.line
  pending : t.pending = s.pending

/-- The same, and the outstanding accesses and the Host Write Port are the same too. -/
structure State.SameOutside (s t : State) : Prop extends State.SameController s t where
  accesses : t.accesses = s.accesses
  port : t.port = s.port

theorem State.SameController.refl (s : State) : s.SameController s := by constructor <;> rfl

theorem State.SameController.trans {s t u : State} (h : s.SameController t) (k : t.SameController u) :
    s.SameController u :=
  ⟨k.ctl.trans h.ctl, k.interruptEnable.trans h.interruptEnable, k.configError.trans h.configError,
    k.fatalCause.trans h.fatalCause, k.cringJobBase.trans h.cringJobBase, k.cringRptBase.trans h.cringRptBase,
    k.cringJobSize.trans h.cringJobSize, k.cringRptSize.trans h.cringRptSize, k.readData.trans h.readData,
    k.timebase.trans h.timebase, k.timeHi.trans h.timeHi, k.line.trans h.line, k.pending.trans h.pending⟩

theorem State.SameOutside.refl (s : State) : s.SameOutside s := ⟨.refl s, rfl, rfl⟩

theorem State.SameOutside.trans {s t u : State} (h : s.SameOutside t) (k : t.SameOutside u) : s.SameOutside u :=
  ⟨h.toSameController.trans k.toSameController, k.accesses.trans h.accesses, k.port.trans h.port⟩

/-- A step of a fold that leaves the outside as it was lets the fold do so. -/
theorem State.SameOutside.foldl {α : Type} (f : State → α → State) (h : ∀ (s : State) (a : α), s.SameOutside (f s a)) (l : List α) :
    ∀ s : State, s.SameOutside (l.foldl f s) := by
  induction l with
  | nil => exact .refl
  | cons a l ih => exact fun s => (h s a).trans (ih (f s a))

section
variable (s : State)

/-! ### Updates of one block -/

theorem setLane_sameOutside (l : LaneId) (x : Lane) : s.SameOutside (s.setLane l x) := ⟨by constructor <;> rfl, rfl, rfl⟩

theorem modLane_sameOutside (l : LaneId) (f : Lane → Lane) : s.SameOutside (s.modLane l f) := setLane_sameOutside s l _

theorem setSlot_sameOutside (j : SlotId) (x : Slot) : s.SameOutside (s.setSlot j x) := ⟨by constructor <;> rfl, rfl, rfl⟩

theorem modSlot_sameOutside (j : SlotId) (f : Slot → Slot) : s.SameOutside (s.modSlot j f) := setSlot_sameOutside s j _

theorem setJobRing_sameOutside (r : RingId) (x : JobRing) : s.SameOutside (s.setJobRing r x) :=
  ⟨by constructor <;> rfl, rfl, rfl⟩

theorem modJobRing_sameOutside (r : RingId) (f : JobRing → JobRing) : s.SameOutside (s.modJobRing r f) :=
  setJobRing_sameOutside s r _

theorem setPoster_sameOutside (n : RingId) (x : Poster) : s.SameOutside (s.setPoster n x) :=
  ⟨by constructor <;> rfl, rfl, rfl⟩

theorem modPoster_sameOutside (n : RingId) (f : Poster → Poster) : s.SameOutside (s.modPoster n f) :=
  setPoster_sameOutside s n _

theorem setTagMap_sameOutside (r : RingId) (m : List TagEntry) : s.SameOutside (s.setTagMap r m) :=
  ⟨by constructor <;> rfl, rfl, rfl⟩

theorem sendLoan_sameOutside (m : LoanMsg) : s.SameOutside (sendLoan m s) := ⟨by constructor <;> rfl, rfl, rfl⟩

theorem raiseEvent_sameOutside (e : EventReport) : s.SameOutside (raiseEvent e s) := by
  unfold raiseEvent; split <;> exact ⟨by constructor <;> rfl, rfl, rfl⟩

/-! ### Reports -/

theorem pushReport_sameOutside (j : SlotId) (body : ReportBody) : s.SameOutside (pushReport j body s) := by
  unfold pushReport
  exact (modSlot_sameOutside s j _).trans (modPoster_sameOutside _ _ _)

theorem completeClose_sameOutside (r : RingId) (c : SlotId) (ended waited : Nat) :
    s.SameOutside (completeClose r c ended waited s) :=
  ((modJobRing_sameOutside s r _).trans (modSlot_sameOutside _ _ _)).trans (pushReport_sameOutside _ _ _)

theorem countFreed_sameOutside (r : RingId) : s.SameOutside (countFreed r s) := by
  unfold countFreed
  split
  · exact .refl s
  · split
    · split
      · exact completeClose_sameOutside s _ _ _ _
      · exact modSlot_sameOutside s _ _
    · exact .refl s

theorem freeSlot_sameOutside (j : SlotId) : s.SameOutside (freeSlot j s) :=
  (modSlot_sameOutside s j _).trans (countFreed_sameOutside _ _)

theorem dropHead_sameOutside (n : RingId) : s.SameOutside (dropHead n s) := by
  unfold dropHead
  split
  · exact .refl s
  · split
    · exact modPoster_sameOutside s _ _
    · split
      · exact ((modPoster_sameOutside s _ _).trans (modSlot_sameOutside _ _ _)).trans (freeSlot_sameOutside _ _)
      · exact (modPoster_sameOutside s _ _).trans (modSlot_sameOutside _ _ _)

theorem dropHeads_sameOutside (k : Nat) (n : RingId) : ∀ s : State, s.SameOutside (dropHeads k n s) := by
  induction k with
  | zero => exact .refl
  | succ k ih => exact fun s => (dropHead_sameOutside s n).trans (ih _)

theorem createReport_sameOutside (j : SlotId) (body : ReportBody) : s.SameOutside (createReport j body s) := by
  unfold createReport
  simp only
  split
  · exact (pushReport_sameOutside s j body).trans (dropHeads_sameOutside _ _ _)
  · exact pushReport_sameOutside s j body

theorem reportRetirement_sameOutside (j : SlotId) (b : Buffer) : s.SameOutside (reportRetirement j b s) := by
  unfold reportRetirement
  split
  · exact modSlot_sameOutside s _ _
  · exact createReport_sameOutside s _ _

theorem answer_sameOutside (j : SlotId) (st : Status) (body : FinalBody) : s.SameOutside (answer j st body s) :=
  (modSlot_sameOutside s j _).trans (createReport_sameOutside _ _ _)

theorem passVector_sameOutside (v : Vec) : s.SameOutside (passVector v s) := by
  unfold passVector; split <;> exact ⟨by constructor <;> rfl, rfl, rfl⟩

theorem requestMessage_sameOutside (n : RingId) : s.SameOutside (requestMessage n s) := by
  unfold requestMessage
  split
  · exact passVector_sameOutside s _
  · exact modPoster_sameOutside s _ _

theorem countPosted_sameOutside (n : RingId) : s.SameOutside (countPosted n s) := by
  unfold countPosted
  simp only
  split
  · exact (setPoster_sameOutside s _ _).trans (requestMessage_sameOutside _ _)
  · split <;> exact setPoster_sameOutside s _ _

theorem sendPendingMessages_sameOutside : s.SameOutside (sendPendingMessages s) := by
  refine .foldl _ (fun s n => ?_) _ s
  split
  · exact (modPoster_sameOutside s _ _).trans (passVector_sameOutside _ _)
  · exact .refl s

/-! ### Lanes and loans -/

theorem activateHead_sameOutside (l : LaneId) : s.SameOutside (activateHead l s) := by
  unfold activateHead
  split
  · exact .refl s
  · exact (modLane_sameOutside s _ _).trans (modSlot_sameOutside _ _ _)

theorem sendLoanRequest_sameOutside (l : LaneId) (h : SlotId) : s.SameOutside (sendLoanRequest l h s) :=
  (modLane_sameOutside s _ _).trans (sendLoan_sameOutside _ _)

theorem sendPlaceOpen_sameOutside (l : LaneId) (loan : Loan) : s.SameOutside (sendPlaceOpen l loan s) := by
  refine .foldl _ (fun s m => ?_) _ s
  split
  · exact .refl s
  · exact sendLoan_sameOutside s _

theorem grantLoan_sameOutside (l : LaneId) (loan : Loan) : s.SameOutside (grantLoan l loan s) :=
  (modLane_sameOutside s _ _).trans (sendLoan_sameOutside _ _)

theorem laneAct_sameOutside (l : LaneId) : s.SameOutside (laneAct l s) := by
  unfold laneAct
  split
  · split
    · exact .refl s
    · split
      · split
        · exact sendLoanRequest_sameOutside s _ _
        · exact .refl s
      · exact activateHead_sameOutside s _
  · split
    · split
      · exact .refl s
      · exact ((modLane_sameOutside s _ _).trans (grantLoan_sameOutside _ _ _)).trans (sendPlaceOpen_sameOutside _ _ _)
    · exact .refl s

theorem withdrawHead_sameOutside (l : LaneId) : s.SameOutside (withdrawHead l s) := by
  unfold withdrawHead
  refine State.SameOutside.trans ?_ (modLane_sameOutside _ _ _)
  split
  · exact .refl s
  · split
    · exact sendLoan_sameOutside s _
    · exact .refl s

theorem leaveQueue_sameOutside (l : LaneId) (j : SlotId) : s.SameOutside (leaveQueue l j s) := by
  unfold leaveQueue
  refine State.SameOutside.trans ?_ (modLane_sameOutside _ _ _)
  split
  · exact withdrawHead_sameOutside s l
  · exact .refl s

theorem takeLoanRequest_sameOutside (p : LaneId) (loan : Loan) : s.SameOutside (takeLoanRequest p loan s) := by
  unfold takeLoanRequest
  split
  · split
    · exact grantLoan_sameOutside s _ _
    · exact modLane_sameOutside s _ _
  · split
    · exact modLane_sameOutside s _ _
    · exact sendLoan_sameOutside s _

theorem takeGrant_sameOutside (l p : LaneId) (loan : Loan) : s.SameOutside (takeGrant l p loan s) := by
  unfold takeGrant
  split
  · exact activateHead_sameOutside s _
  · exact sendLoan_sameOutside s _

theorem takeDefer_sameOutside (l : LaneId) (loan : Loan) : s.SameOutside (takeDefer l loan s) := by
  unfold takeDefer
  split
  · exact modLane_sameOutside s _ _
  · exact .refl s

theorem takeWithdraw_sameOutside (p : LaneId) (loan : Loan) : s.SameOutside (takeWithdraw p loan s) := by
  unfold takeWithdraw
  split
  · exact (modLane_sameOutside s _ _).trans (sendPlaceOpen_sameOutside _ _ _)
  · exact .refl s

theorem takeReturn_sameOutside (p : LaneId) (loan : Loan) : s.SameOutside (takeReturn p loan s) := by
  unfold takeReturn
  split
  · exact (modLane_sameOutside s _ _).trans (laneAct_sameOutside _ _)
  · exact .refl s

theorem takePlaceOpen_sameOutside (l p : LaneId) : s.SameOutside (takePlaceOpen l p s) := by
  unfold takePlaceOpen
  simp only
  split
  · exact .refl s
  · split
    · exact sendLoanRequest_sameOutside s _ _
    · exact .refl s

/-! ### Jobs -/

theorem completeCancel_sameOutside (c : SlotId) : s.SameOutside (completeCancel c s) := by
  unfold completeCancel
  split
  · exact answer_sameOutside s _ _ _
  · exact .refl s

theorem enterPosting_sameOutside (j : SlotId) : s.SameOutside (enterPosting j s) := by
  unfold enterPosting
  simp only
  have h := ((setTagMap_sameOutside s (s.slot j).ring
    ((s.tagMap (s.slot j).ring).filter fun e => e.slot != j)).trans
      (modSlot_sameOutside _ j fun y => { y with state := .posting, cancelWaiter := none })).trans
    (createReport_sameOutside _ j (.final ((s.slot j).endStatus.getD .ok) (finalAccount (s.slot j))))
  split
  · exact h
  · exact h.trans (completeCancel_sameOutside _ _)

theorem finishDraining_sameOutside (j : SlotId) : s.SameOutside (finishDraining j s) := by
  unfold finishDraining
  split
  · exact enterPosting_sameOutside s _
  · exact .refl s

theorem returnPartner_sameOutside (l : LaneId) (j : SlotId) : s.SameOutside (returnPartner l j s) := by
  unfold returnPartner
  simp only
  split
  · split
    · exact modLane_sameOutside s _ _
    · exact .refl s
  · exact .refl s

end

end Sys2Proof.Machine
end

