-- ==== Sys2Proof/Laws/Actions.lean ====
section
/-! SUPPORT. The frames of Laws/Frames.lean for the actions of the commands: production and ends, arrivals and expiries,
dispatched entries, completions and control requests. Each leaves all outside the blocks as it was
(`State.SameOutside`), and the decisions that close an event leave the controller (`settle_sameController`). -/

namespace Sys2Proof.Machine

section
variable (s : State)

/-! ### Ends and production -/

theorem detachActive_sameOutside (l : LaneId) (j : SlotId) (st : Status) : s.SameOutside (detachActive l j st s) := by
  unfold detachActive
  exact ((returnPartner_sameOutside s l j).trans (modLane_sameOutside _ _ _)).trans (modSlot_sameOutside _ _ _)

theorem lanesAct_sameOutside (l : LaneId) (job : Job) : s.SameOutside (lanesAct l job s) := by
  unfold lanesAct
  simp only
  split
  · exact (laneAct_sameOutside s l).trans (laneAct_sameOutside _ _)
  · exact laneAct_sameOutside s l

theorem endActive_sameOutside (l : LaneId) (j : SlotId) (st : Status) : s.SameOutside (endActive l j st s) :=
  ((detachActive_sameOutside s l j st).trans (lanesAct_sameOutside _ _ _)).trans (finishDraining_sameOutside _ _)

theorem detachPending_sameOutside (l : LaneId) (j : SlotId) (st : Status) : s.SameOutside (detachPending l j st s) :=
  (leaveQueue_sameOutside s l j).trans (modSlot_sameOutside _ _ _)

theorem endPending_sameOutside (l : LaneId) (j : SlotId) (st : Status) : s.SameOutside (endPending l j st s) :=
  ((detachPending_sameOutside s l j st).trans (finishDraining_sameOutside _ _)).trans (laneAct_sameOutside _ _)

theorem stageOrLose_sameOutside (l : LaneId) (j : SlotId) (index : BitVec 64) (m : Measurement) (flags : MeasFlags) :
    s.SameOutside (stageOrLose l j index m flags s) := by
  unfold stageOrLose
  simp only
  split
  · exact (modLane_sameOutside s _ _).trans (modSlot_sameOutside _ _ _)
  · exact modSlot_sameOutside s _ _

theorem accountProduction_sameOutside (l : LaneId) (j : SlotId) (m : Measurement) (flags : MeasFlags) :
    s.SameOutside (accountProduction l j m flags s) := by
  unfold accountProduction
  exact (modSlot_sameOutside s j _).trans (stageOrLose_sameOutside _ _ _ _ _ _)

theorem produce_sameOutside (l : LaneId) (j : SlotId) (m : Measurement) (next : Context) :
    s.SameOutside (produce l j m next s) := by
  unfold produce
  simp only
  split
  · exact (accountProduction_sameOutside s _ _ _ _).trans (endActive_sameOutside _ _ _ _)
  · exact (accountProduction_sameOutside s _ _ _ _).trans (modLane_sameOutside _ _ _)

/-! ### Arrivals and expiries -/

theorem takeExpiry_sameOutside (l : LaneId) : s.SameOutside (takeExpiry l s) := by
  unfold takeExpiry
  split
  · simp only
    split
    · exact .refl s
    · split <;> exact produce_sameOutside s _ _ _ _
  · exact .refl s

theorem takeExpiriesUpTo_sameOutside (k : Nat) (l : LaneId) (t : Stamp) :
    ∀ s : State, s.SameOutside (takeExpiriesUpTo k l t s) := by
  induction k with
  | zero => exact .refl
  | succ k ih =>
    intro s
    unfold takeExpiriesUpTo
    split
    · exact .refl s
    · split
      · exact (takeExpiry_sameOutside s l).trans (ih _)
      · exact .refl s

theorem takeExpiriesBefore_sameOutside (l : LaneId) (t : Stamp) : s.SameOutside (takeExpiriesBefore l t s) :=
  takeExpiriesUpTo_sameOutside _ _ _ s

theorem setContext_sameOutside (l : LaneId) (c : Context) : s.SameOutside (setContext l c s) :=
  modLane_sameOutside s _ _

theorem takeStart_sameOutside (j : SlotId) : s.SameOutside (takeStart j s) := modSlot_sameOutside s _ _

theorem widthArrival_sameOutside (l : LaneId) (j : SlotId) (c : Context) (a : Arrival) :
    s.SameOutside (widthArrival l j c a s) := by
  unfold widthArrival
  simp only
  split
  · split
    · exact (setContext_sameOutside s _ _).trans (takeStart_sameOutside _ _)
    · exact .refl s
  · split
    · exact produce_sameOutside s _ _ _ _
    · exact .refl s
  · exact .refl s

theorem cyclesArrival_sameOutside (l : LaneId) (j : SlotId) (c : Context) (a : Arrival) :
    s.SameOutside (cyclesArrival l j c a s) := by
  unfold cyclesArrival
  simp only
  split
  · split
    · exact (setContext_sameOutside s _ _).trans (takeStart_sameOutside _ _)
    · split
      · exact produce_sameOutside s _ _ _ _
      · exact setContext_sameOutside s _ _
    · exact .refl s
  · exact .refl s

theorem spanArrival_sameOutside (l : LaneId) (j : SlotId) (src : LaneId) (c : Context) (a : Arrival) :
    s.SameOutside (spanArrival l j src c a s) := by
  unfold spanArrival
  simp only
  split
  · split
    · exact (setContext_sameOutside s _ _).trans (takeStart_sameOutside _ _)
    · exact .refl s
  · split
    · exact produce_sameOutside s _ _ _ _
    · exact .refl s
  · exact .refl s

theorem windowArrival_sameOutside (l : LaneId) (j : SlotId) (c : Context) (a : Arrival) :
    s.SameOutside (windowArrival l j c a s) := by
  unfold windowArrival
  simp only
  split
  · split
    · exact (setContext_sameOutside s _ _).trans (takeStart_sameOutside _ _)
    · exact .refl s
  · exact setContext_sameOutside s _ _
  · exact .refl s

theorem arrivalAtContext_sameOutside (l src : LaneId) (a : Arrival) : s.SameOutside (arrivalAtContext l src a s) := by
  unfold arrivalAtContext
  split
  · split
    · exact .refl s
    · split
      · exact widthArrival_sameOutside s _ _ _ _
      · exact cyclesArrival_sameOutside s _ _ _ _
      · exact spanArrival_sameOutside s _ _ _ _ _
      · exact windowArrival_sameOutside s _ _ _ _
      · exact windowArrival_sameOutside s _ _ _ _
  · exact .refl s

theorem arrivalNow_sameOutside (l : LaneId) (a : Arrival) : s.SameOutside (arrivalNow l a s) := by
  unfold arrivalNow
  split
  · exact .refl s
  · exact arrivalAtContext_sameOutside s _ _ _

theorem takeAligned_sameOutside (l : LaneId) : s.SameOutside (takeAligned l s) := by
  unfold takeAligned
  split
  · split
    · exact .refl s
    · split
      · simp only
        split
        · exact ((setContext_sameOutside s _ _).trans (takeExpiriesBefore_sameOutside _ _ _)).trans
            (arrivalAtContext_sameOutside _ _ _ _)
        · exact ((setContext_sameOutside s _ _).trans (takeExpiriesBefore_sameOutside _ _ _)).trans
            (arrivalNow_sameOutside _ _ _)
      · exact .refl s
  · exact .refl s

theorem takeAlignedUpTo_sameOutside (k : Nat) (l : LaneId) : ∀ s : State, s.SameOutside (takeAlignedUpTo k l s) := by
  induction k with
  | zero => exact .refl
  | succ k ih => exact fun s => (takeAligned_sameOutside s l).trans (ih _)

theorem takeArrival_sameOutside (l : LaneId) (a : Arrival) : s.SameOutside (takeArrival l a s) := by
  unfold takeArrival
  split
  · exact .refl s
  · split
    · split
      · exact .refl s
      · split
        · simp only
          split
          · exact (setContext_sameOutside s _ _).trans (takeAlignedUpTo_sameOutside _ _ _)
          · exact setContext_sameOutside s _ _
        · exact (takeExpiriesBefore_sameOutside s _ _).trans (arrivalNow_sameOutside _ _ _)
    · exact .refl s

theorem takeStartLimit_sameOutside (j : SlotId) : s.SameOutside (takeStartLimit j s) := by
  unfold takeStartLimit
  split
  · exact .refl s
  · split
    · exact endPending_sameOutside s _ _ _
    · exact endActive_sameOutside s _ _ _
    · exact .refl s

theorem takeCoalescing_sameOutside (n : RingId) : s.SameOutside (takeCoalescing n s) := by
  unfold takeCoalescing
  split
  · exact (modPoster_sameOutside s _ _).trans (requestMessage_sameOutside _ _)
  · exact .refl s

/-! ### Dispatched entries -/

theorem acceptOffer_sameOutside (r : RingId) (j : SlotId) (e : MeasEntry) (l : LaneId) :
    s.SameOutside (acceptOffer r j e l s) := by
  unfold acceptOffer
  simp only
  have h := (modSlot_sameOutside s j (acceptedSlot e l s.timebase)).trans (setTagMap_sameOutside _ r
    ((s.modSlot j (acceptedSlot e l s.timebase)).tagMap r ++ [{ tag := e.tag, slot := j }]))
  split
  · exact (h.trans (modLane_sameOutside _ _ _)).trans (laneAct_sameOutside _ _)
  · exact h.trans (modLane_sameOutside _ _ _)

theorem dispatchMeasurement_sameOutside (kind : MeasKind) (e : MeasEntry) (r : RingId) (j : SlotId) :
    s.SameOutside (dispatchMeasurement kind e r j s) := by
  unfold dispatchMeasurement
  split
  · exact answer_sameOutside s _ _ _
  · split
    · exact answer_sameOutside s _ _ _
    · split
      · exact answer_sameOutside s _ _ _
      · exact acceptOffer_sameOutside s _ _ _ _

theorem dispatchAddBuffer_sameOutside (e : AddBufferEntry) (r : RingId) (j : SlotId) :
    s.SameOutside (dispatchAddBuffer e r j s) := by
  unfold dispatchAddBuffer
  split
  · exact answer_sameOutside s _ _ _
  · split
    · exact answer_sameOutside s _ _ _
    · split
      · exact answer_sameOutside s _ _ _
      · split
        · exact answer_sameOutside s _ _ _
        · split
          · exact answer_sameOutside s _ _ _
          · exact (modSlot_sameOutside s _ _).trans (answer_sameOutside _ _ _ _)

theorem takeFetchFault_sameController : s.SameController (takeFetchFault s) := by
  unfold takeFetchFault
  split
  · exact .refl s
  · split
    · refine State.SameController.trans (t := { s with fetch := none }) (by constructor <;> rfl) ?_
      exact (((modJobRing_sameOutside _ _ _).trans (modSlot_sameOutside _ _ _)).trans
        (raiseEvent_sameOutside _ _)).toSameController
    · exact .refl s

/-! ### The slot of an entry that has arrived -/

@[simp] theorem Slot.hold_kindCode (x : Slot) (e : Entry) : (x.hold e).kindCode = e.kindCode := rfl

@[simp] theorem Slot.hold_tag (x : Slot) (e : Entry) : (x.hold e).tag = e.tag := rfl

@[simp] theorem Slot.hold_job (x : Slot) (e : Entry) : (x.hold e).job = e.job := rfl

@[simp] theorem Slot.hold_request (x : Slot) (e : Entry) : (x.hold e).request = e.request := rfl

@[simp] theorem Slot.hold_state (x : Slot) (e : Entry) : (x.hold e).state = x.state := rfl

@[simp] theorem Slot.hold_ring (x : Slot) (e : Entry) : (x.hold e).ring = x.ring := rfl

@[simp] theorem Slot.hold_stagingLane (x : Slot) (e : Entry) : (x.hold e).stagingLane = x.stagingLane := rfl

@[simp] theorem Slot.hold_produced (x : Slot) (e : Entry) : (x.hold e).produced = x.produced := rfl

@[simp] theorem Slot.hold_written (x : Slot) (e : Entry) : (x.hold e).written = x.written := rfl

@[simp] theorem Slot.hold_lost (x : Slot) (e : Entry) : (x.hold e).lost = x.lost := rfl

@[simp] theorem Slot.hold_lostSinceRecord (x : Slot) (e : Entry) : (x.hold e).lostSinceRecord = x.lostSinceRecord := rfl

@[simp] theorem Slot.hold_reserved (x : Slot) (e : Entry) : (x.hold e).reserved = x.reserved := rfl

@[simp] theorem Slot.hold_landed (x : Slot) (e : Entry) : (x.hold e).landed = x.landed := rfl

@[simp] theorem Slot.hold_buffersRetired (x : Slot) (e : Entry) : (x.hold e).buffersRetired = x.buffersRetired := rfl

@[simp] theorem Slot.hold_outstanding (x : Slot) (e : Entry) : (x.hold e).outstanding = x.outstanding := rfl

@[simp] theorem Slot.hold_flagsSeen (x : Slot) (e : Entry) : (x.hold e).flagsSeen = x.flagsSeen := rfl

@[simp] theorem Slot.hold_current (x : Slot) (e : Entry) : (x.hold e).current = x.current := rfl

@[simp] theorem Slot.hold_queued (x : Slot) (e : Entry) : (x.hold e).queued = x.queued := rfl

@[simp] theorem Slot.hold_landing (x : Slot) (e : Entry) : (x.hold e).landing = x.landing := rfl

@[simp] theorem Slot.hold_reports (x : Slot) (e : Entry) : (x.hold e).reports = x.reports := rfl

@[simp] theorem Slot.hold_startTimer (x : Slot) (e : Entry) : (x.hold e).startTimer = x.startTimer := rfl

@[simp] theorem Slot.hold_endStatus (x : Slot) (e : Entry) : (x.hold e).endStatus = x.endStatus := rfl

@[simp] theorem Slot.hold_writeFaultMark (x : Slot) (e : Entry) : (x.hold e).writeFaultMark = x.writeFaultMark := rfl

@[simp] theorem Slot.hold_cancelWaiter (x : Slot) (e : Entry) : (x.hold e).cancelWaiter = x.cancelWaiter := rfl

@[simp] theorem Slot.hold_wait (x : Slot) (e : Entry) : (x.hold e).wait = x.wait := rfl

/-- An entry that is taken leaves the outside as it was when its action does. -/
theorem takeEntry_sameOutside (e : Entry) (act : RingId → SlotId → State → State)
    (h : ∀ r j (s : State), s.SameOutside (act r j s)) : s.SameOutside (takeEntry e act s) := by
  unfold takeEntry
  split
  · exact .refl s
  · split
    · refine State.SameOutside.trans (t := { s with fetch := none }) ⟨by constructor <;> rfl, rfl, rfl⟩ ?_
      exact ((modJobRing_sameOutside _ _ _).trans (modSlot_sameOutside _ _ _)).trans (h _ _ _)
    · exact .refl s

theorem controlEntry_sameOutside (tag : Tag) (zeros : FinalBody) (act : SlotId → State → State) (r : RingId) (j : SlotId)
    (h : ∀ j (s : State), s.SameOutside (act j s)) : s.SameOutside (controlEntry tag zeros act r j s) := by
  unfold controlEntry
  split
  · exact answer_sameOutside s _ _ _
  · split
    · exact answer_sameOutside s _ _ _
    · exact h _ _

/-! ### Completions -/

theorem lowerHold_sameOutside (h : SlotId) : s.SameOutside (lowerHold h s) := by
  unfold lowerHold
  split
  · split
    · exact answer_sameOutside s _ _ _
    · exact modSlot_sameOutside s _ _
  · exact .refl s

theorem clearMarks_sameOutside (l : LaneId) (gone : List ResultRecord) : s.SameOutside (clearMarks l gone s) := by
  unfold clearMarks
  exact (modLane_sameOutside s l _).trans (.foldl _ (fun s (m : DrainMark) => lowerHold_sameOutside s m.holder) _ _)

theorem landRecord_sameOutside (j : SlotId) : s.SameOutside (landRecord j s) := by
  unfold landRecord
  simp only
  split
  · exact modSlot_sameOutside s _ _
  · split
    · exact ((modSlot_sameOutside s _ _).trans (modSlot_sameOutside _ _ _)).trans (reportRetirement_sameOutside _ _ _)
    · exact modSlot_sameOutside s _ _

theorem takeRecordCompletion_sameOutside (l : LaneId) : s.SameOutside (takeRecordCompletion l s) := by
  unfold takeRecordCompletion
  split
  · exact .refl s
  · simp only
    split
    · exact (((modLane_sameOutside s _ _).trans (landRecord_sameOutside _ _)).trans (clearMarks_sameOutside _ _ _)).trans
        (finishDraining_sameOutside _ _)
    · exact (modLane_sameOutside s _ _).trans (clearMarks_sameOutside _ _ _)

theorem takeRecordFault_sameOutside (l : LaneId) : s.SameOutside (takeRecordFault l s) := by
  unfold takeRecordFault
  split
  · exact .refl s
  · simp only
    split
    · split
      · exact (((modLane_sameOutside s _ _).trans (modSlot_sameOutside _ _ _)).trans
          (clearMarks_sameOutside _ _ _)).trans (endActive_sameOutside _ _ _ _)
      · exact (((modLane_sameOutside s _ _).trans (modSlot_sameOutside _ _ _)).trans
          (clearMarks_sameOutside _ _ _)).trans (finishDraining_sameOutside _ _)
    · exact (modLane_sameOutside s _ _).trans (clearMarks_sameOutside _ _ _)

theorem takeReportCompletion_sameOutside (n : RingId) : s.SameOutside (takeReportCompletion n s) := by
  unfold takeReportCompletion
  split
  · exact .refl s
  · simp only
    split
    · refine State.SameOutside.trans ?_ (countPosted_sameOutside _ _)
      exact ⟨by constructor <;> rfl, rfl, rfl⟩
    · exact ((modPoster_sameOutside s _ _).trans (dropHead_sameOutside _ _)).trans (countPosted_sameOutside _ _)

theorem takeReportFault_sameOutside (n : RingId) : s.SameOutside (takeReportFault n s) := by
  unfold takeReportFault
  split
  · exact .refl s
  · exact ((modPoster_sameOutside s _ _).trans (dropHeads_sameOutside _ _ _)).trans (raiseEvent_sameOutside _ _)

/-! ### Control requests -/

theorem openReportRing_sameOutside (e : OpenReportRingEntry) (j : SlotId) : s.SameOutside (openReportRing e j s) := by
  unfold openReportRing
  split
  · exact answer_sameOutside s _ _ _
  · exact (modPoster_sameOutside s _ _).trans (answer_sameOutside _ _ _ _)

theorem closeReportRing_sameOutside (e : CloseRingEntry) (j : SlotId) : s.SameOutside (closeReportRing e j s) := by
  unfold closeReportRing
  split
  · exact answer_sameOutside s _ _ _
  · exact (modPoster_sameOutside s _ _).trans (answer_sameOutside _ _ _ _)

theorem openJobRing_sameOutside (e : OpenJobRingEntry) (j : SlotId) : s.SameOutside (openJobRing e j s) := by
  unfold openJobRing
  split
  · exact answer_sameOutside s _ _ _
  · exact (modJobRing_sameOutside s _ _).trans (answer_sameOutside _ _ _ _)

theorem closePending_sameOutside (r : RingId) (j : SlotId) : s.SameOutside (closePending r j s) := by
  unfold closePending
  split
  · exact .refl s
  · split
    · exact (detachPending_sameOutside s _ _ _).trans (finishDraining_sameOutside _ _)
    · exact .refl s

theorem closeActive_sameOutside (r : RingId) (j : SlotId) : s.SameOutside (closeActive r j s) := by
  unfold closeActive
  split
  · exact .refl s
  · split
    · exact (detachActive_sameOutside s _ _ _).trans (finishDraining_sameOutside _ _)
    · exact .refl s

theorem releaseClaims_sameOutside (r : RingId) : s.SameOutside (releaseClaims r s) := by
  refine .foldl _ (fun s l => ?_) _ s
  split
  · exact modLane_sameOutside s _ _
  · exact .refl s

theorem closeRingWork_sameOutside (r : RingId) : s.SameOutside (closeRingWork r s) := by
  unfold closeRingWork changedLanesAct
  simp only
  refine State.SameOutside.trans ?_ (.foldl _ (fun s l => laneAct_sameOutside s l) _ _)
  refine State.SameOutside.trans ?_ (releaseClaims_sameOutside _ r)
  refine State.SameOutside.trans ?_ (.foldl _ (fun s j => closeActive_sameOutside s r j) _ _)
  refine State.SameOutside.trans ?_ (.foldl _ (fun s j => closePending_sameOutside s r j) _ _)
  exact modJobRing_sameOutside s r _

theorem closeJobRing_sameOutside (e : CloseRingEntry) (j : SlotId) : s.SameOutside (closeJobRing e j s) := by
  unfold closeJobRing
  split
  · exact answer_sameOutside s _ _ _
  · simp only
    split
    · exact (closeRingWork_sameOutside s _).trans (completeClose_sameOutside _ _ _ _ _)
    · exact ((closeRingWork_sameOutside s _).trans (modSlot_sameOutside _ _ _)).trans (modJobRing_sameOutside _ _ _)

theorem setLane_entry_sameOutside (e : SetLaneEntry) (j : SlotId) : s.SameOutside (setLane e j s) := by
  unfold setLane
  split
  · exact answer_sameOutside s _ _ _
  · exact (modLane_sameOutside s _ _).trans (answer_sameOutside _ _ _ _)

theorem claimLane_sameOutside (e : ClaimLaneEntry) (j : SlotId) : s.SameOutside (claimLane e j s) := by
  unfold claimLane
  split
  · exact answer_sameOutside s _ _ _
  · exact (modLane_sameOutside s _ _).trans (answer_sameOutside _ _ _ _)

theorem setMark_sameOutside (j : SlotId) (l : LaneId) : s.SameOutside (setMark j l s) := by
  unfold setMark
  split
  · exact .refl s
  · exact modLane_sameOutside s _ _

theorem holdNotice_sameOutside (p : LaneId) (loan : Loan) : s.SameOutside (holdNotice p loan s) := by
  unfold holdNotice
  simp only
  split
  · exact modLane_sameOutside s _ _
  · split
    · exact modLane_sameOutside s _ _
    · exact .refl s

theorem holdLanes_sameOutside (j : SlotId) (l : LaneId) : s.SameOutside (holdLanes j l s) := by
  unfold holdLanes
  simp only
  refine State.SameOutside.trans ?_ (.foldl _ (fun s m => setMark_sameOutside s j m) _ _)
  split
  · exact ((modLane_sameOutside s l _).trans (modLane_sameOutside _ l _)).trans (withdrawHead_sameOutside _ l)
  · exact (((modLane_sameOutside s l _).trans (modLane_sameOutside _ l _)).trans (withdrawHead_sameOutside _ l)).trans
      (holdNotice_sameOutside _ _ _)

theorem holdLane_sameOutside (e : LaneEntry) (j : SlotId) : s.SameOutside (holdLane e j s) := by
  unfold holdLane
  split
  · exact answer_sameOutside s _ _ _
  · split
    · exact answer_sameOutside s _ _ _
    · simp only
      split
      · exact (holdLanes_sameOutside s _ _).trans (answer_sameOutside _ _ _ _)
      · exact (holdLanes_sameOutside s _ _).trans (modSlot_sameOutside _ _ _)

theorem resumeLane_sameOutside (l : LaneId) : s.SameOutside (resumeLane l s) := by
  unfold resumeLane
  split
  · exact .refl s
  · exact modLane_sameOutside s _ _

theorem releaseNotice_sameOutside (p : LaneId) (loan : Loan) : s.SameOutside (releaseNotice p loan s) := by
  unfold releaseNotice
  simp only
  split
  · exact modLane_sameOutside s _ _
  · split
    · exact modLane_sameOutside s _ _
    · exact .refl s

theorem clearHold_sameOutside (l : LaneId) : s.SameOutside (clearHold l s) := by
  unfold clearHold
  simp only
  split
  · exact modLane_sameOutside s _ _
  · exact (modLane_sameOutside s _ _).trans (releaseNotice_sameOutside _ _ _)

theorem releaseLane_sameOutside (e : LaneEntry) (j : SlotId) : s.SameOutside (releaseLane e j s) := by
  unfold releaseLane
  split
  · exact answer_sameOutside s _ _ _
  · split
    · simp only
      refine State.SameOutside.trans ?_ (answer_sameOutside _ _ _ _)
      refine State.SameOutside.trans ?_ (laneAct_sameOutside _ _)
      split
      · exact clearHold_sameOutside s _
      · exact (clearHold_sameOutside s _).trans (resumeLane_sameOutside _ _)
    · exact answer_sameOutside s _ _ _

theorem awaitTarget_sameOutside (e : JobNameEntry) (j t : SlotId) : s.SameOutside (awaitTarget e j t s) :=
  (modSlot_sameOutside s _ _).trans (modSlot_sameOutside _ _ _)

theorem cancelJob_sameOutside (e : JobNameEntry) (j : SlotId) : s.SameOutside (cancelJob e j s) := by
  unfold cancelJob
  split
  · exact answer_sameOutside s _ _ _
  · exact answer_sameOutside s _ _ _
  · simp only
    split
    · exact (awaitTarget_sameOutside s _ _ _).trans (endPending_sameOutside _ _ _ _)
    · exact (awaitTarget_sameOutside s _ _ _).trans (endActive_sameOutside _ _ _ _)
    · exact answer_sameOutside s _ _ _

theorem peekJob_sameOutside (e : JobNameEntry) (j : SlotId) : s.SameOutside (peekJob e j s) := by
  unfold peekJob
  split <;> exact answer_sameOutside s _ _ _

/-! ### The decisions that close an event -/

/-- A change of the accesses and the port leaves the controller. -/
theorem sameController_of_issue (a : Access) (port : Port) :
    s.SameController (issueAccess a { s with port := port }) := by constructor <;> rfl

theorem movePointer_sameOutside (r : RingId) : s.SameOutside (movePointer r s) := by
  unfold movePointer
  split
  · exact .refl s
  · split
    · exact .refl s
    · exact ⟨by constructor <;> rfl, rfl, rfl⟩

theorem issueFetch_sameController (r : RingId) (j : SlotId) : s.SameController (issueFetch r j s) := by
  unfold issueFetch
  simp only
  split <;> constructor <;> rfl

theorem fetchDecision_sameController : s.SameController (fetchDecision s) := by
  unfold fetchDecision
  split
  · split
    · exact (movePointer_sameOutside s _).toSameController.trans (issueFetch_sameController _ _ _)
    · exact .refl s
  · exact .refl s

theorem grantAt_sameController (k : Fin 25) : s.SameController (grantAt k s) := by
  unfold grantAt
  simp only
  split
  · unfold grantLane; split <;> constructor <;> rfl
  · split
    · unfold grantPoster
      split
      · unfold issueEvent; constructor <;> rfl
      · split
        · constructor <;> rfl
        · split
          · constructor <;> rfl
          · unfold issueReport; constructor <;> rfl
    · unfold grantGenerator; split <;> constructor <;> rfl

theorem portDecision_sameController : s.SameController (portDecision s) := by
  unfold portDecision
  split
  · split
    · exact .refl s
    · exact grantAt_sameController s _
  · exact .refl s

theorem settle_sameController : s.SameController (settle s) :=
  (fetchDecision_sameController s).trans (portDecision_sameController _)

/-- Outside RUNNING no decision is taken. -/
theorem settle_eq_self {s : State} (h : s.ctl ≠ .running) : settle s = s := by
  have : s.running = false := by simp [State.running, h]
  simp [settle, fetchDecision, portDecision, this]

end

end Sys2Proof.Machine
end

