-- ==== Sys2Proof/Laws/Bytes.lean ====
section
/-! SUPPORT. Reading one field out of fields joined with `++`, as the entries, records and reports of section 11 are. -/

namespace Sys2Proof

/-- The lowest field is read as it was joined. -/
theorem extract_low {n m : Nat} (x : BitVec n) (c : BitVec m) : BitVec.extractLsb' 0 m (x ++ c) = c := by
  apply BitVec.eq_of_getLsbD_eq
  intro i hi
  simp [BitVec.getLsbD_append, hi]

/-- A field above the lowest one is read from what stands above that. -/
theorem extract_skip {n m : Nat} (o k : Nat) (x : BitVec n) (c : BitVec m) (h : m ≤ o) :
    BitVec.extractLsb' o k (x ++ c) = BitVec.extractLsb' (o - m) k x := by
  apply BitVec.eq_of_getLsbD_eq
  intro i hi
  have h1 : ¬ o + i < m := by omega
  have h2 : o + i - m = o - m + i := by omega
  simp [BitVec.getLsbD_append, hi, h1, h2]

/-- A bit above the lowest field is read from what stands above that. -/
theorem bit_skip {n m : Nat} (o : Nat) (x : BitVec n) (c : BitVec m) (h : m ≤ o) :
    (x ++ c).getLsbD o = x.getLsbD (o - m) := by
  have h1 : ¬ o < m := by omega
  simp [BitVec.getLsbD_append, h1]

/-- A bit of the lowest field is read from that field. -/
theorem bit_low {n m : Nat} (o : Nat) (x : BitVec n) (c : BitVec m) (h : o < m) :
    (x ++ c).getLsbD o = c.getLsbD o := by
  simp [BitVec.getLsbD_append, h]

end Sys2Proof
end

