-- ==== Sys2Proof/Laws/PerInstr.lean ====
section
/-! SUPPORT. A law of every command as syntax, one lemma per constructor: byte 0 of a job entry is the kind code of its
command (section 11.5), and a command that is no completion of a fetch read has no entry. -/

namespace Sys2Proof.Laws.EntryBytes

/-- The kind code of section 11.5's table for the command's entry. -/
def code : Instr → Option Byte
  | .edgeArrival _ _ _ => none
  | .alignedArrivalDue _ => none
  | .windowEndExpiry _ => none
  | .overflowBoundExpiry _ => none
  | .startLimitExpiry _ => none
  | .coalescingTimerExpiry _ => none
  | .width _ => some 0x01
  | .cycles _ => some 0x02
  | .span _ => some 0x03
  | .tally _ => some 0x04
  | .quiet _ => some 0x05
  | .addBuffer _ => some 0x10
  | .openReportRing _ => some 0x22
  | .closeReportRing _ => some 0x23
  | .openJobRing _ => some 0x20
  | .closeJobRing _ => some 0x21
  | .setLane _ => some 0x24
  | .claimLane _ => some 0x25
  | .holdLane _ => some 0x26
  | .releaseLane _ => some 0x27
  | .cancelJob _ => some 0x28
  | .peekJob _ => some 0x29
  | .undefinedKindEntry code _ => some code
  | .fetchReadFault => none
  | .recordWriteCompletion _ => none
  | .recordWriteFault _ => none
  | .loanRequest _ _ => none
  | .grant _ _ => none
  | .defer _ _ => none
  | .withdraw _ _ => none
  | .loanReturn _ _ => none
  | .placeOpenNotice _ _ => none
  | .reportWriteCompletion _ => none
  | .reportWriteFault _ => none
  | .ring0ReportWriteFault => none
  | .writeAcceptance => none
  | .jobTailWrite _ _ => none
  | .rptHeadWrite _ _ => none
  | .timeLoRead => none
  | .startUp _ => none
  | .stop _ => none
  | .stopEnd => none
  | .interruptEnableSet _ => none
  | .interruptEnableClear _ => none
  | .registerWrite _ _ _ => none
  | .powerOn _ => none
  | .pcieReset => none
  | .baseTick _ => none

/-- The entry of the command starts with its kind code, and a command without one has no entry. -/
def Statement (i : Instr) : Prop := (encodeEntry i).map (fun b => b.byte 0) = code i

theorem edgeArrival (lane : LaneId) (polarity : Polarity) (stamp : Stamp) : Statement (.edgeArrival lane polarity stamp) :=
  rfl

theorem alignedArrivalDue (lane : LaneId) : Statement (.alignedArrivalDue lane) := rfl

theorem windowEndExpiry (lane : LaneId) : Statement (.windowEndExpiry lane) := rfl

theorem overflowBoundExpiry (lane : LaneId) : Statement (.overflowBoundExpiry lane) := rfl

theorem startLimitExpiry (slot : SlotId) : Statement (.startLimitExpiry slot) := rfl

theorem coalescingTimerExpiry (ring : RingId) : Statement (.coalescingTimerExpiry ring) := rfl

theorem width (e : MeasEntry) : Statement (.width e) := congrArg some (extract_low _ _)

theorem cycles (e : MeasEntry) : Statement (.cycles e) := congrArg some (extract_low _ _)

theorem span (e : MeasEntry) : Statement (.span e) := congrArg some (extract_low _ _)

theorem tally (e : MeasEntry) : Statement (.tally e) := congrArg some (extract_low _ _)

theorem quiet (e : MeasEntry) : Statement (.quiet e) := congrArg some (extract_low _ _)

theorem addBuffer (e : AddBufferEntry) : Statement (.addBuffer e) := congrArg some (extract_low _ _)

theorem openReportRing (e : OpenReportRingEntry) : Statement (.openReportRing e) := congrArg some (extract_low _ _)

theorem closeReportRing (e : CloseRingEntry) : Statement (.closeReportRing e) := congrArg some (extract_low _ _)

theorem openJobRing (e : OpenJobRingEntry) : Statement (.openJobRing e) := congrArg some (extract_low _ _)

theorem closeJobRing (e : CloseRingEntry) : Statement (.closeJobRing e) := congrArg some (extract_low _ _)

theorem setLane (e : SetLaneEntry) : Statement (.setLane e) := congrArg some (extract_low _ _)

theorem claimLane (e : ClaimLaneEntry) : Statement (.claimLane e) := congrArg some (extract_low _ _)

theorem holdLane (e : LaneEntry) : Statement (.holdLane e) := congrArg some (extract_low _ _)

theorem releaseLane (e : LaneEntry) : Statement (.releaseLane e) := congrArg some (extract_low _ _)

theorem cancelJob (e : JobNameEntry) : Statement (.cancelJob e) := congrArg some (extract_low _ _)

theorem peekJob (e : JobNameEntry) : Statement (.peekJob e) := congrArg some (extract_low _ _)

theorem undefinedKindEntry (kind : Byte) (tag : Tag) : Statement (.undefinedKindEntry kind tag) :=
  congrArg some (extract_low _ _)

theorem fetchReadFault : Statement .fetchReadFault := rfl

theorem recordWriteCompletion (lane : LaneId) : Statement (.recordWriteCompletion lane) := rfl

theorem recordWriteFault (lane : LaneId) : Statement (.recordWriteFault lane) := rfl

theorem loanRequest (src : LaneId) (dst : LaneId) : Statement (.loanRequest src dst) := rfl

theorem grant (src : LaneId) (dst : LaneId) : Statement (.grant src dst) := rfl

theorem defer (src : LaneId) (dst : LaneId) : Statement (.defer src dst) := rfl

theorem withdraw (src : LaneId) (dst : LaneId) : Statement (.withdraw src dst) := rfl

theorem loanReturn (src : LaneId) (dst : LaneId) : Statement (.loanReturn src dst) := rfl

theorem placeOpenNotice (src : LaneId) (dst : LaneId) : Statement (.placeOpenNotice src dst) := rfl

theorem reportWriteCompletion (ring : RingId) : Statement (.reportWriteCompletion ring) := rfl

theorem reportWriteFault (ring : RingId) : Statement (.reportWriteFault ring) := rfl

theorem ring0ReportWriteFault : Statement .ring0ReportWriteFault := rfl

theorem writeAcceptance : Statement .writeAcceptance := rfl

theorem jobTailWrite (ring : RingId) (value : BitVec 32) : Statement (.jobTailWrite ring value) := rfl

theorem rptHeadWrite (ring : RingId) (value : BitVec 32) : Statement (.rptHeadWrite ring value) := rfl

theorem timeLoRead : Statement .timeLoRead := rfl

theorem startUp (interruptEnable : Bool) : Statement (.startUp interruptEnable) := rfl

theorem stop (interruptEnable : Bool) : Statement (.stop interruptEnable) := rfl

theorem stopEnd : Statement .stopEnd := rfl

theorem interruptEnableSet (enable : Bool) : Statement (.interruptEnableSet enable) := rfl

theorem interruptEnableClear (enable : Bool) : Statement (.interruptEnableClear enable) := rfl

theorem registerWrite (offset : BitVec 12) (accessWidth : AccessWidth) (value : BitVec 32) : Statement (.registerWrite offset accessWidth value) :=
  rfl

theorem powerOn (levels : BitVec 16) : Statement (.powerOn levels) := rfl

theorem pcieReset : Statement .pcieReset := rfl

theorem baseTick (levels : BitVec 16) : Statement (.baseTick levels) := rfl

end Sys2Proof.Laws.EntryBytes
end

