-- ==== Sys2Proof/Tests/Slice0.lean ====
section
/-! SUPPORT. The model's own tests: the checks of WellFormed, entries of host memory, one or two single steps of each
command with results taken from the manual's examples and rules, and for each statement of Obligations.lean that has
hypotheses a concrete state that meets them (`witness_…`). -/

namespace Sys2Proof.Tests.Slice0

open Sys2Proof Sys2Proof.Machine

/-! ### Small states -/

/-- The state a command leaves. -/
def after (c : Instr) (s : State) : State :=
  match exec c s with
  | .next t => t
  | _ => State.reset

/-- RUNNING at timebase 1000 with nothing to do. -/
def idle : State := { State.reset with ctl := .running, timebase := 1000 }

/-- A measurement job in slot 5 of ring 1, tag 7, active on lane 3 with this context and these arrivals formed. -/
def active (k : MeasKind) (f : MeasEntry) (c : Context) (formed : List Arrival := []) : State :=
  (idle.setLane 3 { active := some 5, ctx := some c, formed := formed }).setSlot 5
    { state := .active
      ring := 1
      tag := 7
      kindCode := kindCode (entryKindOf k)
      job := some { kind := k, fields := f }
      stagingLane := some 3
      current := some { base := 64, capacity := 2 } }

/-- The fields of a WIDTH from RISE to FALL. -/
def highWidth : MeasEntry := { tag := 7, lane := 3, startSpec := 1, stopSpec := 2, capacity := 2 }

/-- A context in a phase, with accept-from and start at 500. -/
def ctx (p : Phase) : Context := { phase := p, acceptFrom := 500, startTs := 500 }

/-- A window with its expiry due at the present instant. -/
def dueWindow : Context :=
  { ctx .window with edgeCounter := 6, pending := some { kind := .windowEnd, nominal := 997, due := 1000 } }

/-- A measurement with its overflow bound due at the present instant. -/
def dueBound : Context :=
  { ctx .measuring with pending := some { kind := .overflow, nominal := 997, due := 1000 } }

/-- A read from ring `r` in flight into slot 2; report ring 1 is OPEN and carries the reports of ring 1. -/
def fetching (r : RingId) : State :=
  let s : State := { idle with fetch := some { ring := r, index := 4, slot := 2 }, accesses := [.fetch] }
  ((s.setJobRing r { state := .open, size := 8, head := 4, tail := 5, bound := if r = 0 then 0 else 1 }).setPoster 1
    { state := .open, size := 4 }).setSlot 2 { state := .fetching, ring := r }

/-- The read in flight of `fetching r`. -/
def read (r : RingId) : FetchRecord := { ring := r, index := 4, slot := 2 }

/-- The record with index 8 of slot 5. -/
def record : ResultRecord :=
  { slot := 5
    place := 64
    index := 8
    value := 1
    aux := 1
    startTs := 1
    endTs := 2
    flags := {}
    afterLoss := false
    lostBefore := 0 }

/-- That record in lane 3's write slot, its write outstanding, the slot in this state. -/
def landing (st : SlotState) (capacity : BitVec 16) (reports : List Report := []) : State :=
  let s := active .width highWidth (ctx .armed)
  ({ s with accesses := [.record 3] }.modLane 3 fun x => { x with writeSlot := some record }).modSlot 5 fun x =>
    { x with
      state := st, outstanding := 1, reserved := 1, current := some { base := 64, capacity := capacity }
      reports := reports }

/-- A waiting PROGRESS of slot 5. -/
def progress : Report := { kindCode := 1, tag := 7, ring := 1, body := .progress 32 1 1 }

/-- A FINAL of slot 5. -/
def final : Report := { kindCode := 1, tag := 7, ring := 1, body := .final .ok .empty }

/-- Report ring 1 OPEN with the write of slot 5's FINAL in flight. -/
def posting : State :=
  ({ idle with accesses := [.report 1] }.setPoster 1
    { state := .open, size := 4, tail := 3, head := 1, inFlight := some (.slot 5), queue := [5] }).setSlot 5
      { state := .posting, ring := 1, tag := 7, stagingLane := some 3, reports := [{ final with inFlight := true }] }

/-- Ring 0's event report in flight. -/
def postingEvent : State :=
  { idle with accesses := [.report 0], events := [.fetchFault 1 2] }.setPoster 0
    { state := .open, size := 2, tail := 1, head := 1, inFlight := some .event }

/-- The SPAN of slot 5 waits at lane 3's head in phase ASKED with loan number 1 and partner lane 4. -/
def asking : State :=
  (idle.setLane 3 { queue := [5], loanPhase := .asked, loanNumber := 1 }).setSlot 5
    { state := .pending
      ring := 1
      tag := 7
      job := some { kind := .span, fields := { highWidth with partner := 4 } }
      stagingLane := some 3
      current := some { base := 64, capacity := 2 } }

/-- The loan it asks for. -/
def loan : Loan := { primary := 3, slot := 5, number := 1, ring := 1, tag := 7 }

/-- `s` with one loan message in flight. -/
def sent (m : LoanMsg) (s : State) : State := { s with loanMsgs := [m] }

/-- A SPAN in slot 5 active on lane 3, with partner lane 4 lent to it. -/
def spanning (c : Context) : State :=
  ((active .span { highWidth with partner := 4 } c).modLane 4 fun x => { x with lentTo := some loan })

/-- Every slot below `n` is occupied. -/
def crowded (n : Nat) (s : State) : State :=
  { s with slots := Vector.ofFn fun j : Fin 64 => if j.val < n then { state := .posting } else {} }

/-! ### WellFormed refuses what spells no command -/

theorem test_wf_undefined_kind : (Instr.undefinedKindEntry 0x10 0).wf = false := by decide

theorem test_wf_loan_request : (Instr.loanRequest 3 3).wf = false := by decide

theorem test_wf_grant : (Instr.grant 3 3).wf = false := by decide

theorem test_wf_defer : (Instr.defer 3 3).wf = false := by decide

theorem test_wf_withdraw : (Instr.withdraw 3 3).wf = false := by decide

theorem test_wf_loan_return : (Instr.loanReturn 3 3).wf = false := by decide

theorem test_wf_place_open : (Instr.placeOpenNotice 3 3).wf = false := by decide

theorem test_wf_report_fault : (Instr.reportWriteFault 0).wf = false := by decide

theorem test_wf_accepts : (Instr.undefinedKindEntry 0x06 0).wf = true ∧ (Instr.grant 3 4).wf = true := by decide

/-! ### Entries (section 11.1), their bytes written out from the last to byte 0 -/

set_option maxRecDepth 4000 in
set_option exponentiation.threshold 600 in
/-- SPAN on lanes 3 and 4, bytes 39 to 0. -/
theorem test_entry_span :
    decodeEntry 0x0123456789ABCDE0_0000_0005_DDDDDDDD_CCCCCCCC_BBBBBBBB_1000_0002_0064_FF_03_02_01_04_03_1234_06_03 =
      .span
        { tag := 0x1234
          bandEnable := true
          stopOnBand := true
          lane := 3
          partner := 4
          startSpec := 1
          stopSpec := 2
          prescale := 3
          repeatCount := 100
          startLimit := 2
          divider := 0x1000
          window := 0xBBBBBBBB
          bandLow := 0xCCCCCCCC
          bandHigh := 0xDDDDDDDD
          capacity := 5
          address := 0x0123456789ABCDE0 } := by decide

set_option maxRecDepth 4000 in
set_option exponentiation.threshold 600 in
/-- OPEN_JOB_RING, bytes 23 to 0. -/
theorem test_entry_open_job_ring :
    decodeEntry 0x00000000000000C0_FFFFFFFFFFFF_0100_FF_10_02_03_0007_00_20 =
      .openJobRing { tag := 7, id := 3, reportRing := 2, weight := 16, size := 256, base := 0xC0 } := by decide

set_option maxRecDepth 4000 in
set_option exponentiation.threshold 600 in
/-- CANCEL_JOB, bytes 7 to 0. -/
theorem test_entry_cancel_job :
    decodeEntry 0xABCD_FF_06_0009_FF_28 = .cancelJob { tag := 9, ring := 6, target := 0xABCD } := by decide

set_option maxRecDepth 4000 in
set_option exponentiation.threshold 600 in
/-- An entry of all zeros is undefined (section 11.5). -/
theorem test_entry_zeros : decodeEntry 0 = .undefinedKindEntry 0 0 := by decide

/-- A record, bytes 31 to 0 (section 11.2): flags OVERFLOW, BAND_HIGH and AFTER_LOSS are 01h, 04h and 10h. -/
theorem test_record_bytes :
    recordBytes
      { slot := 0
        place := 0
        index := 5
        value := 0x64
        aux := 2
        startTs := 0x111111111111
        endTs := 0x222222222222
        flags := { overflow := true, bandHigh := true }
        afterLoss := true
        lostBefore := 0x0333 } =
      0x00_15_222222222222_0333_111111111111_00000002_00000064_0000000000000005 := by decide

/-- A PROGRESS, bytes 31 to 0 (section 11.3). -/
theorem test_progress_bytes :
    reportBytes
      { kindCode := 0x04, tag := 0x0A0B, ring := 5, body := .progress 0xE0 7 2, sequence := 0x21, ringHead := 0x0C } =
      0x00000000000000E0_00000000_00000007_00000002_0000_000C_00_05_0A0B_0021_04_01 := by decide

/-! ### Lanes, arrivals and time -/

/-- Section 1.1's example: lane 5 with F = 3 qualifies at 108 the rise seen since 105. -/
theorem test_base_tick_qualifies :
    let s := { idle with timebase := 107 }.setLane 5 { filterWidth := 3, candidate := some 105 }
    ((after (.baseTick 0x0020) s).lane 5).filtered = true ∧
      ((after (.baseTick 0x0020) s).lane 5).formed = [⟨.rise, 105⟩] := by decide

/-- The same lane at 102: the two-tick pulse is removed. -/
theorem test_base_tick_removes_a_glitch :
    let s := { idle with timebase := 101 }.setLane 5 { filterWidth := 3, candidate := some 100 }
    ((after (.baseTick 0) s).lane 5).candidate = none ∧ ((after (.baseTick 0) s).lane 5).formed = [] := by decide

/-- R14: bits 0 to 31 are returned, and bits 32 to 47 are latched. -/
theorem test_time_lo :
    let t := after .timeLoRead { idle with timebase := 0x123456789ABC }
    t.readData = 0x56789ABC ∧ t.timeHi = 0x1234 := by decide

/-- Section 2.5's example: the rise at 1600 ends a period of 50 job ticks and starts the next. -/
theorem test_width_adjoin :
    let e : MeasEntry := { startSpec := 1, stopSpec := 1, adjoin := true, prescale := 1, repeatCount := 3 }
    let t := after (.edgeArrival 3 .rise 1600)
      (active .width e { phase := .measuring, acceptFrom := 1000, startTs := 1200 } [⟨.rise, 1600⟩])
    (t.slot 5).produced = 1 ∧ (t.lane 3).ctx.map Context.startTs = some 1600 := by decide

/-- Section 1.4's example: the fall at 5000 closes [4000, 5000) with 6 and is counted in the next window. -/
theorem test_tally_boundary :
    let e : MeasEntry := { stopSpec := 2, window := 1000 }
    let c : Context :=
      { phase := .window
        acceptFrom := 4000
        startTs := 4000
        edgeCounter := 6
        pending := some { kind := .windowEnd, nominal := 5000, due := 5003 } }
    let t := after (.edgeArrival 3 .fall 5000) (active .tally e c [⟨.fall, 5000⟩])
    (t.slot 5).produced = 1 ∧ (t.lane 3).ctx.map Context.edgeCounter = some 1 := by decide

/-- Section 2.7's example: the partner's rise at 15 000 is taken at 15 050, 3000 ticks after the start. -/
theorem test_span_stop :
    let c : Context :=
      { phase := .measuring, acceptFrom := 10000, startTs := 12000, alignment := [(4, ⟨.rise, 15000⟩)] }
    let s := ((spanning c).modSlot 5 fun x =>
      { x with job := some { kind := .span, fields := { highWidth with partner := 4, stopSpec := 1 } } }).modLane 4
        fun x => { x with filterWidth := 50 }
    let t := after (.alignedArrivalDue 3) { s with timebase := 15050 }
    (t.slot 5).produced = 1 ∧ ((t.lane 3).writeSlot.map fun r => r.value) = some 3000 := by decide

/-- R10 with S = 0: the overflow at the arrival's own tick ends the SPAN, and the WIDTH that follows on lane 3 takes the
arrival as its start. -/
theorem test_span_bound_first :
    let c : Context :=
      { ctx .measuring with
        pending := some { kind := .overflow, nominal := 1000, due := 1000 }, alignment := [(3, ⟨.rise, 1000⟩)] }
    let s := ((spanning c).modSlot 5 fun x =>
      { x with job := some { kind := .span, fields := { highWidth with partner := 4, repeatCount := 1 } } }).setSlot 6
        { state := .pending, job := some { kind := .width, fields := highWidth }, stagingLane := some 3 }
    let t := after (.alignedArrivalDue 3) (s.modLane 3 fun x => { x with queue := [6] })
    (t.slot 5).produced = 1 ∧ (t.lane 3).active = some 6 ∧
      (t.lane 3).ctx.map (fun c => (c.phase, c.startTs)) = some (.measuring, 1000) := by decide

/-- R61: lane 4 is still lent to a SPAN that is gone, whose slot a WIDTH has taken that is active on lane 3: no context
takes an arrival of lane 4. -/
theorem test_lent_to_a_departed_span :
    let s := (active .width highWidth (ctx .armed)).setLane 4 { lentTo := some loan }
    contextLane s 4 = none ∧ contextLane s 3 = some 3 ∧ contextLane (spanning (ctx .armed)) 4 = some 3 := by decide

theorem test_window_end :
    let t := after (.windowEndExpiry 3) (active .tally { window := 100 } dueWindow)
    ((t.lane 3).writeSlot.map fun r => r.value) = some 6 ∧ (t.lane 3).ctx.map Context.startTs = some 997 := by decide

theorem test_overflow_bound :
    let t := after (.overflowBoundExpiry 3) (active .width highWidth dueBound)
    ((t.lane 3).writeSlot.map fun r => (r.value, r.flags.overflow)) = some (0xFFFFFFFF, true) ∧
      (t.lane 3).ctx.map Context.phase = some .armed := by decide

/-- Section 2.4's example: the start limit ends the WIDTH, which posts START_TIMEOUT. -/
theorem test_start_limit :
    let s := (active .width highWidth (ctx .armed)).modSlot 5 fun x => { x with startTimer := some 1000 }
    ((after (.startLimitExpiry 5) s).slot 5).state = .posting ∧
      ((after (.startLimitExpiry 5) s).slot 5).endStatus = some .startTimeout := by decide

/-- Section 7.7's example: the expiry requests a message to vector 5, which the free port issues. -/
theorem test_coalescing :
    let s := { idle with interruptEnable := true }.setPoster 2
      { vector := 5, coalescingCount := 4, coalescingTime := 5, unsignalled := 2, timer := some 1000 }
    (after (.coalescingTimerExpiry 2) s).port.busy = some (.message 5) ∧
      ((after (.coalescingTimerExpiry 2) s).poster 2).unsignalled = 0 := by decide

/-! ### Fetched entries -/

theorem test_width_accepted :
    let t := after (.width highWidth) (fetching 1)
    (t.slot 2).state = .active ∧ (t.lane 3).active = some 2 ∧ t.tagMap 1 = [⟨7, 2⟩] := by decide

theorem test_cycles_divider :
    ((after (.cycles { highWidth with divider := 4097 }) (fetching 1)).slot 2).endStatus = some .badField := by decide

/-- Section 12.3: a SPAN asks its partner lane with loan number 1. -/
theorem test_span_asks :
    let t := after (.span { highWidth with partner := 9 }) (fetching 1)
    (t.slot 2).state = .pending ∧ t.loanMsgs = [⟨3, 9, .request, ⟨3, 2, 1, 1, 7⟩⟩] := by decide

theorem test_tally_opens_its_window :
    let t := after (.tally { lane := 3, stopSpec := 1, window := 10, capacity := 1 }) (fetching 1)
    (t.lane 3).ctx.map Context.pending = some (some ⟨.windowEnd, 1010, 1010⟩) := by decide

/-- R121 and R44: the entry is refused, and its slot holds its decoded fields. -/
theorem test_quiet_needs_a_window :
    let e : MeasEntry := { lane := 3, stopSpec := 1, capacity := 1 }
    ((after (.quiet e) (fetching 1)).slot 2).endStatus = some .badField ∧
      ((after (.quiet e) (fetching 1)).slot 2).job = some ⟨.quiet, e⟩ := by decide

/-- Section 12.2: B is queued behind A, at position 1. -/
theorem test_add_buffer :
    let s := ((fetching 1).setSlot 5
      { state := .active, ring := 1, tag := 7, stagingLane := some 3, current := some ⟨0, 2⟩ }).setTagMap 1 [⟨7, 5⟩]
    let t := after (.addBuffer { tag := 100, target := 7, capacity := 2, address := 96 }) s
    (t.slot 5).queued = [⟨96, 2⟩] ∧
      (t.slot 2).reports.map Report.body = [.final .ok (.addBuffer 7 1)] := by decide

theorem test_open_report_ring :
    let e : OpenReportRingEntry := { id := 2, vector := 5, coalescingCount := 4, size := 64, base := 96 }
    ((after (.openReportRing e) (fetching 0)).poster 2).state = .open ∧
      ((after (.openReportRing e) (fetching 0)).poster 2).size = 64 := by decide

theorem test_close_report_ring :
    ((after (.closeReportRing { id := 1 }) (fetching 0)).poster 1).state = .closed := by decide

/-- Section 12.1: job ring 1 opens, bound to report ring 1. -/
theorem test_open_job_ring :
    let e : OpenJobRingEntry := { id := 1, reportRing := 1, weight := 2, size := 16, base := 64 }
    ((after (.openJobRing e) (fetching 0)).jobRing 1).state = .open ∧
      ((after (.openJobRing e) (fetching 0)).jobRing 1).bound = 1 := by decide

set_option maxRecDepth 4000 in
/-- R156: with no slot of the ring left the close completes at once. -/
theorem test_close_job_ring :
    let s := (fetching 0).setJobRing 4 { state := .open, size := 8, head := 6, tail := 6 }
    let t := after (.closeJobRing { id := 4 }) s
    (t.jobRing 4).state = .closed ∧ (t.slot 2).reports.map Report.body = [.final .ok (.closeJobRing 4 0 0 6)] := by
  decide

/-- R158: turning invert on takes the present level and forms no arrival. -/
theorem test_set_lane :
    let t := after (.setLane { lane := 4, filter := 10, invert := 1 }) (fetching 0)
    (t.lane 4).filterWidth = 10 ∧ (t.lane 4).filtered = true ∧ (t.lane 4).formed = [] := by decide

/-- R159 and R61: the grant to ring 1's SPAN is not returned yet, and ring 4 cannot claim the lane. -/
theorem test_claim_lent_lane :
    let s := ((fetching 0).setJobRing 4 { state := .open, size := 8 }).setLane 4 { lentTo := some loan }
    ((after (.claimLane { lane := 4, ring := 4 }) s).slot 2).endStatus = some .inUse := by decide

theorem test_claim_lane :
    let s := (fetching 0).setJobRing 1 { state := .open, size := 8 }
    ((after (.claimLane { lane := 4, ring := 1 }) s).lane 4).owner = some 1 := by decide

/-- Section 12.4: the hold abandons the measurement, and waits for the newest record. -/
theorem test_hold_lane :
    let s := (landing .active 2).modLane 3 fun x => { x with ctx := some (ctx .measuring) }
    let s := ({ s with fetch := some (read 0), accesses := [.fetch, .record 3] }.setJobRing 0
      { state := .open, size := 8, head := 4, tail := 5 }).setSlot 2 { state := .fetching }
    let t := after (.holdLane { lane := 3 }) s
    (t.lane 3).ctx.map Context.phase = some .held ∧ (t.slot 2).wait = .hold 1 3 1 7 true := by decide

/-- R93 and R61: the lane is lent to a SPAN that is gone, and the hold names that SPAN. -/
theorem test_hold_lent_lane :
    let t := after (.holdLane { lane := 4 }) ((fetching 0).setLane 4 { lentTo := some loan })
    (t.slot 2).reports.map Report.body = [.final .ok (.holdLane 4 1 7 false)] := by decide

/-- Section 12.4: the job resumes with accept-from at the release. -/
theorem test_release_lane :
    let s := ((active .width highWidth (ctx .held)).modLane 3 fun x => { x with hold := true })
    let s := ({ s with fetch := some (read 0), accesses := [.fetch] }.setJobRing 0
      { state := .open, size := 8, head := 4, tail := 5 }).setSlot 2 { state := .fetching }
    let t := after (.releaseLane { lane := 3 }) s
    (t.lane 3).ctx.map (fun c => (c.phase, c.acceptFrom)) = some (.armed, 1000) ∧
      (t.slot 2).reports.map Report.body = [.final .ok (.releaseLane 3 1 7)] := by decide

/-- R97 and R98: an ACTIVE job is cancelled, with `found` ACTIVE. -/
theorem test_cancel_job :
    let s := (active .width highWidth (ctx .armed)).setTagMap 1 [⟨7, 5⟩]
    let s := ({ s with fetch := some (read 0), accesses := [.fetch] }.setJobRing 0
      { state := .open, size := 8, head := 4, tail := 5 }).setSlot 2 { state := .fetching }
    let t := after (.cancelJob { ring := 1, target := 7 }) s
    (t.slot 5).endStatus = some .cancelled ∧
      (t.slot 2).reports.map Report.body = [.final .ok (.cancelJob 1 3 7)] := by decide

theorem test_peek_job_absent :
    let t := after (.peekJob { ring := 8, target := 7 }) (fetching 0)
    (t.slot 2).endStatus = some .notFound ∧ (t.slot 2).request = some (.peekJob { ring := 8, target := 7 }) := by decide

theorem test_undefined_kind :
    ((after (.undefinedKindEntry 0x06 1) (fetching 1)).slot 2).endStatus = some .badKind := by decide

theorem test_fetch_fault :
    let t := after .fetchReadFault (fetching 1)
    (t.jobRing 1).state = .faulted ∧ (t.jobRing 1).head = 4 ∧ t.events = [.fetchFault 1 4] := by decide

/-! ### Writes -/

/-- Section 12.2: the record that fills the buffer retires it. -/
theorem test_record_retires :
    let t := after (.recordWriteCompletion 3) (landing .active 1)
    (t.slot 5).written = 1 ∧ (t.slot 5).reports.map Report.body = [.progress 64 1 1] := by decide

theorem test_record_fault :
    let t := after (.recordWriteFault 3) (landing .active 2)
    (t.slot 5).lost = 1 ∧ (t.slot 5).endStatus = some .writeFault ∧ (t.lane 3).active = none := by decide

theorem test_report_completion :
    let t := after (.reportWriteCompletion 1) posting
    (t.poster 1).tail = 0 ∧ (t.poster 1).sequence = 1 ∧ (t.slot 5).state = .free := by decide

theorem test_report_fault :
    let t := after (.reportWriteFault 1) posting
    (t.poster 1).state = .faulted ∧ (t.poster 1).tail = 3 ∧ (t.slot 5).state = .free ∧
      t.events = [.reportFault 1 3] := by decide

theorem test_ring0_fault :
    (after .ring0ReportWriteFault postingEvent).ctl = .fatal ∧
      (after .ring0ReportWriteFault postingEvent).fatalCause = .eventWrite := by decide

theorem test_acceptance :
    let s := { idle with port := { busy := some (.message 5) }, accesses := [.message] }
    (after .writeAcceptance s).port.busy = none ∧ (after .writeAcceptance s).accesses = [] := by decide

/-! ### Loans -/

/-- Section 12.3: an idle partner grants. -/
theorem test_loan_request :
    let t := after (.loanRequest 3 4) (sent ⟨3, 4, .request, loan⟩ asking)
    (t.lane 4).lentTo = some loan ∧ t.loanMsgs = [⟨4, 3, .grant, loan⟩] := by decide

theorem test_grant :
    (((after (.grant 4 3) (sent ⟨4, 3, .grant, loan⟩ asking))).lane 3).active = some 5 := by decide

/-- Section 12.3, expiry first: a grant that matches no head is returned. -/
theorem test_grant_returned :
    (after (.grant 4 3) (sent ⟨4, 3, .grant, { loan with number := 0 }⟩ asking)).loanMsgs =
      [⟨3, 4, .return, { loan with number := 0 }⟩] := by decide

theorem test_defer :
    ((after (.defer 4 3) (sent ⟨4, 3, .defer, loan⟩ asking)).lane 3).loanPhase = .deferred := by decide

theorem test_withdraw :
    let t := after (.withdraw 3 4) (sent ⟨3, 4, .withdraw, loan⟩ (idle.setLane 4 { place := some loan }))
    (t.lane 4).place = none ∧ t.loanMsgs.length = 15 := by decide

theorem test_loan_return :
    ((after (.loanReturn 3 4) (sent ⟨3, 4, .return, loan⟩ (idle.setLane 4 { lentTo := some loan }))).lane 4).lentTo =
      none := by decide

theorem test_place_open :
    let s := asking.modLane 3 fun x => { x with loanPhase := .deferred }
    (after (.placeOpenNotice 4 3) (sent ⟨4, 3, .placeOpen, loan⟩ s)).loanMsgs =
      [⟨3, 4, .request, { loan with number := 2 }⟩] := by decide

/-! ### The register window -/

/-- Section 12.1: a tail of 4 makes ring 0 eligible, and the read of place 0 is issued into slot 0. -/
theorem test_job_tail :
    let t := after (.jobTailWrite 0 0xFFFFF004) (idle.setJobRing 0 { state := .open, size := 16 })
    (t.jobRing 0).tail = 4 ∧ t.fetch = some ⟨0, 0, 0⟩ := by decide

/-- Section 7.2's example: head 1 is taken while the write to place 0 is in flight, and 2 is not. -/
theorem test_rpt_head :
    let s := idle.setPoster 3 { state := .open, size := 4, inFlight := some (.slot 5) }
    ((after (.rptHeadWrite 3 1) s).poster 3).head = 1 ∧
      (after (.rptHeadWrite 3 2) s).events = [.indexError true 3 2] := by decide

theorem test_start_up :
    let s := { State.reset with cringJobSize := 16, cringRptSize := 16, cringJobBase := 64, cringRptBase := 32 }
    (after (.startUp true) s).ctl = .running ∧ ((after (.startUp true) s).jobRing 0).state = .open := by decide

theorem test_start_up_fails :
    (after (.startUp true) State.reset).ctl = .off ∧ (after (.startUp true) State.reset).configError = true := by decide

theorem test_stop :
    (after (.stop true) (fetching 1)).ctl = .stopping ∧ ((after (.stop true) (fetching 1)).slot 2).state = .free := by
  decide

theorem test_stop_end : (after .stopEnd { State.reset with ctl := .stopping, accesses := [.fetch] }).ctl = .off := by
  decide

/-- Section 7.7's example: setting interrupt enable sends the flagged ring's vector. -/
theorem test_interrupt_enable_set :
    let s := idle.setPoster 2 { vector := 5, pendingMessage := true }
    (after (.interruptEnableSet true) s).port.busy = some (.message 5) ∧
      ((after (.interruptEnableSet true) s).poster 2).pendingMessage = false := by decide

theorem test_interrupt_enable_clear :
    (after (.interruptEnableClear true) { idle with interruptEnable := true, messages := [5] }).port.busy =
      some (.message 5) := by decide

theorem test_register_write :
    (after (.registerWrite 0x014 .word 0xABCD) State.reset).cringJobBase = 0x0000ABCD00000000 ∧
      after (.registerWrite 0x014 .half 0xABCD) State.reset = State.reset := by decide

/-- Section 11.4: STAT shows the state in bits 1 and 0, `config_error` in bit 2 and the cause in bits 5 and 4. -/
theorem test_stat_read :
    readWindow 0x004 .word { idle with ctl := .fatal, configError := true, fatalCause := .eventWrite } = 0x27 := by
  decide

theorem test_power_on : ((after (.powerOn 0x0008) (fetching 1)).lane 3).filtered = true := by decide

theorem test_pcie_reset : (after .pcieReset (fetching 1)).ctl = .stopping ∧ after .pcieReset State.reset = State.reset := by
  decide

/-! ### States that meet the hypotheses of the statements: time, decisions and arrivals -/

theorem witness_StepRunsTheFrontCommand :
    { idle with pending := [.stopEnd, .timeLoRead] }.pending = .stopEnd :: [.timeLoRead] ∧ idle.pending = [] := by decide

theorem witness_EveryCommandCompletesAndKeepsTheQueue :
    (Instr.reportWriteFault 1).wf = true ∧ (Instr.undefinedKindEntry 0xFF 0).wf = true := by decide

theorem witness_SettleChangesOnlyFetchAndPort :
    State.reset.ctl ≠ .running ∧ ((landing .active 2).slot 5).state ≠ .free := by decide

/-- Job ring `r` OPEN at its last place with one entry waiting, the pointer at `p`, every slot below `n` occupied. -/
def ringed (r p : RingId) (credit n : Nat) : State :=
  crowded n (({ idle with pointer := p }.setJobRing r
    { state := .open
      size := 8
      head := 7
      tail := 0
      bound := if r = 0 then 0 else 1
      weight := 2
      credit := credit }).setPoster 1 { state := .open, size := 4 })

/-- The eligibility that `FetchDecisionFollowsTheRotation` states. -/
abbrev Eligible (s : State) (r : RingId) : Prop :=
  (s.jobRing r).state = .open ∧ (s.jobRing r).head ≠ (s.jobRing r).tail ∧
    (if r = 0 then 1 ≤ freeSlots s else (s.poster (s.jobRing r).bound).state = .open ∧ 5 ≤ freeSlots s)

/-- Slot `j` is the lowest FREE one. -/
abbrev LowestFree (s : State) (j : SlotId) : Prop :=
  (s.slot j).state = .free ∧ ∀ i : SlotId, i < j → (s.slot i).state ≠ .free

theorem witness_FetchDecision_idle :
    (fetching 1).fetch ≠ none ∧ ∀ r, ¬ Eligible (ringed 3 3 1 60) r := by decide

/-- One FREE slot is enough for ring 0. -/
theorem witness_FetchDecision_ring0 :
    (ringed 0 7 0 63).ctl = .running ∧ (ringed 0 7 0 63).fetch = none ∧ LowestFree (ringed 0 7 0 63) 63 ∧
      Eligible (ringed 0 7 0 63) 0 := by decide

/-- Five FREE slots are enough for ring 3. -/
theorem witness_FetchDecision_credit :
    let s := ringed 3 3 1 59
    s.ctl = .running ∧ s.fetch = none ∧ LowestFree s 59 ∧ ¬ Eligible s 0 ∧ Eligible s s.pointer ∧
      0 < (s.jobRing s.pointer).credit := by decide

/-- The search reaches its first ring, and its last, the ring under the pointer itself. -/
theorem witness_FetchDecision_rotates :
    (¬ Eligible (ringed 1 7 0 0) 0 ∧ ¬ Eligible (ringed 1 7 0 0) 7 ∧
        Eligible (ringed 1 7 0 0) (Fin.ofNat 8 ((7 + 0) % 7 + 1))) ∧
      (¬ Eligible (ringed 3 3 0 0) 0 ∧ ((ringed 3 3 0 0).jobRing 3).credit = 0 ∧
        Eligible (ringed 3 3 0 0) (Fin.ofNat 8 ((3 + 6) % 7 + 1)) ∧
        ∀ i < 6, ¬ Eligible (ringed 3 3 0 0) (Fin.ofNat 8 ((3 + i) % 7 + 1))) := by decide

/-- The requests that `GrantDecisionFollowsTheRotation` states. -/
def stands (s : State) (k : Fin 25) : Bool :=
  decide <| (∃ l : LaneId, k.val = l.val ∧ (s.lane l).fifo ≠ [] ∧ (s.lane l).writeSlot = none) ∨
  (∃ n : RingId, k.val = 16 + n.val ∧ (s.poster n).state = .open ∧ (s.poster n).inFlight = none ∧
    ((s.poster n).tail + 1) % (s.poster n).size ≠ (s.poster n).head ∧
    ((s.poster n).queue ≠ [] ∨ (n = 0 ∧ s.events ≠ []))) ∨
  (k.val = 24 ∧ s.messages ≠ [])

/-- `k` is the first requester of the search, `d` positions on. -/
abbrev Granted (s : State) (d : Nat) (k : Fin 25) : Prop :=
  s.ctl = .running ∧ s.port.busy = none ∧ d < 25 ∧ k = Fin.ofNat 25 (s.port.position.val + 1 + d) ∧
    stands s k = true ∧ ∀ i < d, stands s (Fin.ofNat 25 (s.port.position.val + 1 + i)) = false

/-- Lane 3 alone has a record to write, and the port is at this position. -/
def staging (position : Fin 25) : State :=
  { idle with port := { position := position } }.modLane 3 fun x => { x with fifo := [record] }

theorem witness_GrantDecision_idle : State.reset.ctl ≠ .running ∧ ∀ k, stands idle k = false := by decide

/-- The lane granted last is the last of the search, and the one after it the first. -/
theorem witness_GrantDecision_lane :
    Granted (staging 3) 24 3 ∧ Granted (staging 2) 0 3 ∧ ((staging 3).lane 3).fifo = record :: [] := by decide

theorem witness_GrantDecision_event :
    let s := { idle with events := [.fetchFault 1 2] }.setPoster 0 { state := .open, size := 2 }
    Granted s 16 16 ∧ s.events = .fetchFault 1 2 :: [] := by decide

theorem witness_GrantDecision_report :
    let s := posting.modPoster 1 fun p => { p with inFlight := none, head := 3 }
    Granted s 17 17 ∧ (s.poster 1).queue = 5 :: [] ∧ (s.slot 5).reports = { final with inFlight := true } :: [] := by
  decide

theorem witness_GrantDecision_message :
    Granted { idle with messages := [5] } 24 24 ∧ { idle with messages := [5] }.messages = 5 :: [] := by decide

theorem witness_TimebaseMovesOnlyAtTicks : ∃ t, exec (.baseTick 0) { idle with timebase := -1 } = .next t := ⟨_, rfl⟩

/-- A lane with these fields sees a 1 at a tick to 1000: each row of R2's table, the elapsed time at F and one below. -/
theorem witness_BaseTickRunsTheGlitchFilters :
    let x : Lane := { filterWidth := 3, candidate := some 997 }
    let y : Lane := { filterWidth := 3, candidate := some 998 }
    (0x0020#16).getLsbD 5 ≠ x.filtered ∧ x.filterWidth.toNat ≤ (1000#48 - 997).toNat ∧
      (1000#48 - 998).toNat < y.filterWidth.toNat ∧ (0#16).getLsbD 5 = x.filtered ∧
      ({} : Lane).candidate = none ∧ ({} : Lane).filterWidth = 0 := by decide

theorem witness_TimeLoReadFillsTheLatch : ∃ t, exec .timeLoRead idle = .next t := ⟨_, rfl⟩

/-- An arrival at 500 that is ignored for each reason of the statement, and one that the filter has not formed. -/
theorem witness_ArrivalsThatNoContextTakes :
    let a : Arrival := ⟨.rise, 500⟩
    let stops := { idle with ctl := .stopping }.setLane 3 { formed := [a] }
    let held := (active .width highWidth (ctx .held) [a]).modLane 3 fun x => { x with hold := true }
    let late := active .width highWidth { ctx .armed with acceptFrom := 501 } [a]
    let lent := idle.setLane 4 { lentTo := some loan, formed := [a] }
    let reused := (active .width highWidth (ctx .armed)).setLane 4 { lentTo := some loan, formed := [a] }
    (stops.ctl ≠ .running ∧ (stops.lane 3).formed = a :: []) ∧
      ((held.lane 3).hold = true ∧ (held.lane 3).formed = a :: []) ∧
      ((late.lane 3).lentTo = none ∧ (late.lane 3).ctx = some { ctx .armed with acceptFrom := 501 } ∧
        earlier a.stamp 501 = true) ∧
      ((lent.lane 4).lentTo = some loan ∧ (lent.lane 4).formed = a :: [] ∧
        (lent.lane loan.primary).active ≠ some loan.slot) ∧
      ((reused.lane 4).lentTo = some loan ∧ (reused.lane loan.primary).active = some loan.slot ∧
        ∀ job ∈ (reused.slot loan.slot).job, job.kind ≠ .span) ∧
      (idle.lane 3).formed.head? ≠ some a := by decide

/-- An arrival at the accept-from itself. -/
theorem witness_StartEdgeBeginsTheMeasurement :
    (active .width highWidth (ctx .armed) [⟨.rise, 500⟩]).TakesArrival 3 5 ⟨.width, highWidth⟩ (ctx .armed)
        ⟨.rise, 500⟩ [] ∧
      (active .cycles highWidth (ctx .armed) [⟨.fall, 500⟩]).TakesArrival 3 5 ⟨.cycles, highWidth⟩ (ctx .armed)
        ⟨.fall, 500⟩ [] := by decide

theorem witness_WidthStopEdgeProduces :
    (active .width highWidth dueBound [⟨.fall, 996⟩]).TakesArrival 3 5 ⟨.width, highWidth⟩ dueBound ⟨.fall, 996⟩ [] := by
  decide

theorem witness_CyclesCountsStartEdges :
    (active .cycles highWidth dueBound [⟨.rise, 996⟩]).TakesArrival 3 5 ⟨.cycles, highWidth⟩ dueBound ⟨.rise, 996⟩ [] := by
  decide

theorem witness_WindowsCountArrivals :
    (active .tally highWidth dueWindow [⟨.fall, 996⟩]).TakesArrival 3 5 ⟨.tally, highWidth⟩ dueWindow ⟨.fall, 996⟩ [] ∧
      dueWindow.phase = .window ∧
      (active .quiet highWidth (ctx .armed) [⟨.rise, 500⟩]).TakesArrival 3 5 ⟨.quiet, highWidth⟩ (ctx .armed)
        ⟨.rise, 500⟩ [] ∧ (ctx .armed).phase = .armed := by decide

/-- With S = 50 an arrival at 951 is not due at 1000, on the primary lane and on the partner lane; one at 950 is. -/
theorem witness_SpanArrivalsAreAligned :
    let s := ((spanning (ctx .armed)).modLane 4 fun x =>
      { x with filterWidth := 50, formed := [⟨.fall, 951⟩] }).modLane 3 fun x => { x with formed := [⟨.rise, 950⟩] }
    let settleTicks := max (s.lane 3).filterWidth.toNat (s.lane (Fin.ofNat 16 (4 : Byte).toNat)).filterWidth.toNat
    s.ctl = .running ∧ (s.lane 3).hold = false ∧ (s.lane 3).formed = ⟨.rise, 950⟩ :: [] ∧ (s.lane 3).lentTo = none ∧
      (s.lane 4).hold = false ∧ (s.lane 4).formed = ⟨.fall, 951⟩ :: [] ∧ (s.lane 4).lentTo = some loan ∧
      loan.primary = 3 ∧ loan.slot = 5 ∧ (s.lane 3).active = some 5 ∧ (s.lane 3).ctx = some (ctx .armed) ∧
      (s.slot 5).job = some ⟨.span, { highWidth with partner := 4 }⟩ ∧ Fin.ofNat 16 (4 : Byte).toNat = (4 : LaneId) ∧
      (ctx .armed).phase ≠ .held ∧ earlier 950 500 = false ∧
      earlier s.timebase (951 + BitVec.ofNat 48 settleTicks) = true ∧
      earlier s.timebase (950 + BitVec.ofNat 48 settleTicks) = false := by decide

/-- With S = 50 the arrival at 950 is due at 1000, and the one at 951 is not. -/
theorem witness_AlignedArrivalsAreTakenWhenDue :
    let c : Context := { ctx .measuring with alignment := [(4, ⟨.fall, 950⟩), (4, ⟨.rise, 951⟩)] }
    let s := (spanning c).modLane 4 fun x => { x with filterWidth := 50 }
    let settleTicks := max (s.lane 3).filterWidth.toNat (s.lane (Fin.ofNat 16 (4 : Byte).toNat)).filterWidth.toNat
    (s.lane 3).active = some 5 ∧ (s.lane 3).ctx = some c ∧
      (s.slot 5).job = some ⟨.span, { highWidth with partner := 4 }⟩ ∧
      c.alignment = (4, ⟨.fall, 950⟩) :: [(4, ⟨.rise, 951⟩)] ∧ s.ctl = .running ∧
      earlier s.timebase (950 + BitVec.ofNat 48 settleTicks) = false ∧ c.phase = .measuring ∧
      earlier 950 c.acceptFrom = false ∧ c.pending = none ∧
      earlier s.timebase (951 + BitVec.ofNat 48 settleTicks) = true := by decide

/-- With S = 0 an arrival at its own overflow bound, of a job that goes on and of one that the overflow ends. -/
theorem witness_AlignedArrivals_bound :
    let p : Expiry := { kind := .overflow, nominal := 1000, due := 1000 }
    let c : Context := { ctx .measuring with pending := some p, alignment := [(4, ⟨.rise, 1000⟩)] }
    let m : Measurement := { value := 0xFFFFFFFF, aux := 0, startTs := 500, endTs := 1000, overflow := true }
    let job := fun n : BitVec 16 => (⟨.span, { highWidth with partner := 4, repeatCount := n }⟩ : Job)
    let s := fun n : BitVec 16 => (spanning c).modSlot 5 fun x => { x with job := some (job n) }
    let ends := fun n : BitVec 16 =>
      productionEnd (job n) (measurementFlags (job n) m.value true false) (((s n).slot 5).produced + 1)
    let v := produce 3 5 m { ctx .armed with edgeCounter := 0 }
      ((s 1).modLane 3 fun x => { x with ctx := some { c with alignment := [] } })
    ((s 1).lane 3).active = some 5 ∧ ((s 1).lane 3).ctx = some c ∧ ((s 1).slot 5).job = some (job 1) ∧
      earlier (s 1).timebase (1000 + BitVec.ofNat 48 0) = false ∧ earlier 1000 p.nominal = false ∧
      ends 0 = none ∧ ends 1 ≠ none ∧ (v.lane 3).active ≠ some 5 ∧ (v.lane 4).lentTo = none ∧ (v.lane 4).active = none ∧
      (v.lane 4).ctx = none := by decide

/-- The expiry due at the present instant and one tick before; an arrival stamped at the window's end. -/
theorem witness_WindowEndProducesAndReopens :
    let e : MeasEntry := { highWidth with window := 1 }
    let s := active .tally e dueWindow [⟨.fall, 997⟩]
    let p : Expiry := { kind := .windowEnd, nominal := 997, due := 1000 }
    (s.lane 3).active = some 5 ∧ (s.lane 3).ctx = some dueWindow ∧ (s.slot 5).job = some ⟨.tally, e⟩ ∧
      dueWindow.pending = some p ∧ s.ctl = .running ∧ earlier s.timebase p.due = false ∧
      earlier { s with timebase := 999 }.timebase p.due = true ∧ (s.lane 3).hold = false ∧ (s.lane 3).lentTo = none ∧
      (s.lane 3).formed = ⟨.fall, 997⟩ :: [] ∧ dueWindow.phase = .window ∧ earlier 997 dueWindow.acceptFrom = false ∧
      earlier 997 p.nominal = false ∧ e.window ≠ 0 ∧
      productionEnd ⟨.tally, e⟩ (measurementFlags ⟨.tally, e⟩ 6 false false) ((s.slot 5).produced + 1) = none := by decide

/-- The same of an overflow bound. -/
theorem witness_OverflowBoundProduces :
    let s := active .cycles highWidth dueBound [⟨.rise, 997⟩]
    let p : Expiry := { kind := .overflow, nominal := 997, due := 1000 }
    (s.lane 3).active = some 5 ∧ (s.lane 3).ctx = some dueBound ∧ (s.slot 5).job = some ⟨.cycles, highWidth⟩ ∧
      dueBound.pending = some p ∧ s.ctl = .running ∧ earlier s.timebase p.due = false ∧
      earlier { s with timebase := 999 }.timebase p.due = true ∧ (s.lane 3).hold = false ∧ (s.lane 3).lentTo = none ∧
      (s.lane 3).formed = ⟨.rise, 997⟩ :: [] ∧ dueBound.phase = .measuring ∧ earlier 997 dueBound.acceptFrom = false ∧
      earlier 997 p.nominal = false ∧
      productionEnd ⟨.cycles, highWidth⟩ (measurementFlags ⟨.cycles, highWidth⟩ 0xFFFFFFFF true false)
        ((s.slot 5).produced + 1) = none := by decide

theorem witness_StartLimitEndsTheJob :
    let s := (active .width highWidth (ctx .armed)).modSlot 5 fun x => { x with startTimer := some 1000 }
    let waits := asking.modSlot 5 fun x => { x with startTimer := some 1000 }
    (s.ctl = .running ∧ (s.slot 5).startTimer = some 1000 ∧ earlier s.timebase 1000 = false ∧
      (s.slot 5).stagingLane = some 3 ∧ (s.slot 5).state = .active) ∧
      ((waits.slot 5).startTimer = some 1000 ∧ (waits.slot 5).stagingLane = some 3 ∧ (waits.slot 5).state = .pending) ∧
      (asking.slot 5).startTimer = none ∧ earlier { s with timebase := 999 }.timebase 1000 = true := by decide

theorem witness_CoalescingExpiryRequestsAMessage :
    let s := idle.setPoster 2 { unsignalled := 1, timer := some 1000 }
    s.ctl = .running ∧ (s.poster 2).timer = some 1000 ∧ earlier s.timebase 1000 = false ∧
      0 < (s.poster 2).unsignalled ∧ (idle.poster 2).timer = none := by decide

/-! ### Production, ends and reports -/

/-- A value one above the band, one of a QUIET with no edge, and a count at its repeat. -/
theorem witness_BandAndRepeatDecideTheEnd :
    let band : Job := ⟨.width, { bandEnable := true, stopOnBand := true, bandLow := 5, bandHigh := 9 }⟩
    let quiet : Job := ⟨.quiet, { bandEnable := true, stopOnBand := true }⟩
    let counts : Job := ⟨.width, { repeatCount := 3 }⟩
    productionEnd band (measurementFlags band 10 false false) 1 = some .bandStop ∧
      productionEnd quiet (measurementFlags quiet 10 false false) 1 = none ∧
      productionEnd counts (measurementFlags counts 9 false false) 3 = some .ok := by decide

/-- The last place of a buffer with three records staged; a full buffer; a full FIFO; no buffer at all. -/
theorem witness_ProductionAccountsAndEnds :
    let s := (landing .active 2).modLane 3 fun x => { x with fifo := [record, record, record] }
    let full := (landing .active 2).modLane 3 fun x => { x with fifo := [record, record, record, record] }
    (s.slot 5).job = some ⟨.width, highWidth⟩ ∧ (s.slot 5).current = some ⟨64, 2⟩ ∧
      (s.slot 5).reserved < (2 : BitVec 16) ∧ (s.slot 5).reserved + 1 = (2 : BitVec 16) ∧
      (s.lane 3).fifo.length < 4 ∧ 4 ≤ (full.lane 3).fifo.length ∧
      ¬ ((landing .active 1).slot 5).reserved < (1 : BitVec 16) ∧ (posting.slot 5).current = none := by decide

/-- A lane that is not quiet, and quiet ones with a WIDTH, a TALLY and a SPAN at their head, with a place to grant, and
with nothing. -/
theorem witness_LanesActOnTheirNewState :
    let waits := fun k : MeasKind => asking.modSlot 5 fun x => { x with job := some ⟨k, highWidth⟩ }
    let quiet := fun s : State =>
      s.ctl = .running ∧ (s.lane 3).active = none ∧ (s.lane 3).lentTo = none ∧ (s.lane 3).hold = false
    ¬ quiet (landing .active 2) ∧ quiet asking ∧ (asking.lane 3).queue = 5 :: [] ∧
      ((waits .width).slot 5).job = some ⟨.width, highWidth⟩ ∧ ((waits .tally).slot 5).job = some ⟨.tally, highWidth⟩ ∧
      (asking.slot 5).job = some ⟨.span, { highWidth with partner := 4 }⟩ ∧ (asking.lane 3).loanPhase ≠ .idle ∧
      ((asking.modLane 3 fun x => { x with loanPhase := .idle }).lane 3).loanPhase = .idle ∧
      (quiet idle ∧ (idle.lane 3).queue = [] ∧ (idle.lane 3).place = none) ∧
      ((idle.setLane 3 { place := some { loan with primary := 6 } }).lane 3).place = some { loan with primary := 6 } := by
  decide

theorem witness_AnEndFreesTheLanes :
    ((landing .active 2).slot 5).job = some ⟨.width, highWidth⟩ ∧
      ((spanning (ctx .armed)).slot 5).job = some ⟨.span, { highWidth with partner := 4 }⟩ ∧
      ((spanning (ctx .armed)).lane (Fin.ofNat 16 (4 : Byte).toNat)).lentTo = some loan ∧
      ((active .span { highWidth with partner := 4 } (ctx .armed)).lane 4).lentTo = none ∧
      (asking.lane 3).queue = 5 :: [] ∧
      ((asking.modLane 3 fun x => { x with queue := [6, 5] }).lane 3).queue.head? ≠ some 5 := by decide

theorem witness_SlotEntersPosting :
    let s := (landing .draining 2).modSlot 5 fun x => { x with cancelWaiter := some 6 }
    let s := s.modSlot 6 fun x => { x with state := .waiting, wait := .cancel 1 7 .active }
    ((landing .draining 2).slot 5).cancelWaiter = none ∧ (s.slot 5).cancelWaiter = some 6 ∧
      (s.slot 6).wait = .cancel 1 7 .active := by decide

theorem witness_ReportsAreQueuedOrDiscarded :
    let faulted := (landing .draining 2).setPoster 0 { state := .faulted, size := 4 }
    (posting.poster 1).state ≠ .faulted ∧ (faulted.poster 0).state = .faulted ∧ (faulted.poster 0).queue = [] ∧
      (faulted.slot 5).reports = [] := by decide

/-- Ring 1 CLOSING with the close in slot 6, which waits for this many slots. -/
def closing (remaining : Nat) : State :=
  (posting.setJobRing 1 { state := .closing, size := 8, bound := 1, closer := some 6 }).setSlot 6
    { state := .waiting, wait := .close 1 remaining 2 3 }

theorem witness_AFreedSlotCountsTowardTheClose :
    (posting.jobRing (posting.slot 5).ring).closer = none ∧
      ((closing 2).jobRing ((closing 2).slot 5).ring).closer = some 6 ∧ ((closing 2).slot 6).wait = .close 1 2 2 3 ∧
      ((closing 1).slot 6).wait = .close 1 1 2 3 ∧ ((closing 1).slot 6).ring = 0 ∧
      ((closing 1).poster 0).state ≠ .faulted := by decide

/-! ### Fetched entries -/

theorem witness_TagLookupsAnswerLiveEndedOrAbsent :
    let s := posting.setTagMap 1 [⟨8, 6⟩, ⟨9, 4⟩]
    s.tagMap 1 = [⟨8, 6⟩] ++ ⟨9, 4⟩ :: [] ∧ (∀ e ∈ ([⟨8, 6⟩] : List TagEntry), e.tag ≠ 9) ∧
      (∀ e ∈ s.tagMap 1, e.tag ≠ 7) ∧ (s.slot 5).state = .posting ∧ (s.slot 5).stagingLane ≠ none ∧
      (s.slot 5).ring = 1 ∧ (s.slot 5).tag = 7 ∧ 7 < (8 : Byte).toNat := by decide

/-- Lane 15 with this many waiting jobs. -/
def queued (n : Nat) : State := (fetching 1).setLane 15 { queue := (List.finRange 64).take n }

/-- A QUIET with every field at the end of its range passes behind seven waiting jobs, and finds a queue of eight full. -/
theorem witness_MeasurementEntriesAreCheckedAndOffered :
    let e : MeasEntry :=
      { tag := 0xFFFE, lane := 15, startSpec := 3, stopSpec := 3, prescale := 3, window := 1, capacity := 1 }
    let tests := fun n => checkOrder .quiet 1 e ((queued n).delivered (read 1)
      { kindCode := 0x05, tag := e.tag, job := some ⟨.quiet, e⟩ })
    (queued 7).Delivers (read 1) ∧ firstRefusal (tests 7) = none ∧ (queued 8).Delivers (read 1) ∧
      firstRefusal (tests 8) = some .queueFull := by decide

/-- Slot 5 is ACTIVE with tag 7 and this many queued buffers; the read of ring 1 is in flight. -/
def feeding (current : Option Buffer) (n : Nat) : State :=
  ((fetching 1).setSlot 5
    { state := .active, ring := 1, tag := 7, stagingLane := some 3, current := current
      queued := List.replicate n ⟨64, 2⟩ }).setTagMap 1 [⟨7, 5⟩]

theorem witness_AddBufferFeedsALiveJob :
    let e : AddBufferEntry := { target := 7, capacity := 1 }
    let d := fun s : State => s.delivered (read 1) { kindCode := 0x10, tag := e.tag, request := some (.addBuffer e) }
    ((feeding none 0).Delivers (read 1) ∧ lookupTag 1 7 (d (feeding none 0)) = .live 5 ∧
        ((d (feeding none 0)).slot 5).current = none) ∧
      ((feeding (some ⟨0, 2⟩) 3).Delivers (read 1) ∧ lookupTag 1 7 (d (feeding (some ⟨0, 2⟩) 3)) = .live 5 ∧
        ((d (feeding (some ⟨0, 2⟩) 3)).slot 5).current ≠ none ∧
        ((d (feeding (some ⟨0, 2⟩) 3)).slot 5).queued.length < 4) ∧
      ¬ ((d (feeding (some ⟨0, 2⟩) 4)).slot 5).queued.length < 4 ∧ (fetching 1).Delivers (read 1) ∧
      lookupTag 1 8 (d (feeding none 0)) = .absent := by decide

theorem witness_InvalidKindsAndTagsAreRefused :
    (fetching 1).Delivers (read 1) ∧ (fetching 7).Delivers (read 7) ∧ (fetching 0).Delivers (read 0) ∧
      controlRequest (.holdLane {}) =
        some ({ kindCode := 0x26, tag := 0, request := some (.holdLane {}) }, .holdLane 0 0 0xFFFF false) ∧
      controlRequest (.peekJob { tag := 0xFFFF }) =
        some ({ kindCode := 0x29, tag := 0xFFFF, request := some (.peekJob { tag := 0xFFFF }) },
          .peekJob 0 0 0 0 0 0 0) ∧
      kindOfCode 0x06 = none := by decide

/-- The tests of OPEN_REPORT_RING pass with every field at its largest value; CLOSE_REPORT_RING's with a FAULTED ring. -/
theorem witness_ReportRingsOpenAndClose :
    let e : OpenReportRingEntry := { id := 7, vector := 15, coalescingCount := 64, coalescingTime := 255, size := 4096 }
    let s := (fetching 0).setPoster 7 { state := .faulted, size := 4 }
    (fetching 0).Delivers (read 0) ∧ e.tag ≠ 0xFFFF ∧ 1 ≤ e.id.toNat ∧ e.id.toNat ≤ 7 ∧
      ((fetching 0).poster 7).state = .closed ∧ e.base.toNat % 32 = 0 ∧ e.size.toNat ≤ 4096 ∧ e.vector.toNat ≤ 15 ∧
      e.coalescingCount.toNat ≤ 64 ∧ s.Delivers (read 0) ∧ (s.poster 7).state ≠ .closed ∧
      (∀ r : RingId, r = 0 ∨ (s.jobRing r).state = .closed ∨ (s.jobRing r).bound ≠ 7) := by decide

theorem witness_JobRingsOpen :
    let e : OpenJobRingEntry := { id := 7, reportRing := 1, weight := 16, size := 2 }
    (fetching 0).Delivers (read 0) ∧ e.tag ≠ 0xFFFF ∧ 1 ≤ e.id.toNat ∧ e.id.toNat ≤ 7 ∧
      ((fetching 0).jobRing 7).state = .closed ∧ e.base.toNat % 64 = 0 ∧ 2 ≤ e.size.toNat ∧ 1 ≤ e.reportRing.toNat ∧
      e.weight.toNat ≤ 16 ∧ ((fetching 0).poster 1).state = .open := by decide

/-- The read of ring 0 in flight into slot 2 of this state. -/
def controlling (s : State) : State :=
  ({ s with fetch := some (read 0), accesses := .fetch :: s.accesses }.setJobRing 0
    { state := .open, size := 8, head := 4, tail := 5 }).setSlot 2 { state := .fetching }

/-- Ring 1, FAULTED, has an ACTIVE job, and ring 4, OPEN, has none. -/
def closable : State :=
  ((controlling (landing .active 2)).setJobRing 1 { state := .faulted, size := 8 }).setJobRing 4
    { state := .open, size := 8 }

set_option maxRecDepth 4000 in
/-- The close waits for slot 5 of ring 1, DRAINING, and for no slot of ring 4; each is what the statement's steps
leave. -/
theorem witness_ClosingAJobRingEndsItsJobs :
    let s := closable
    let d := s.delivered (read 0) { kindCode := 0x21, tag := 0, request := some (.closeJobRing {}) }
    let owed := fun r : RingId => owedSlots r (closeRingWork r d)
    s.Delivers (read 0) ∧ (s.jobRing 1).state = .faulted ∧ owed 1 = 1 ∧ (s.jobRing 4).state = .open ∧ owed 4 = 0 ∧
      (s.jobRing 5).state = .closed ∧ (∀ r, (d.jobRing r).closer = none) ∧ (d.slot 2).ring = 0 ∧
      ((d.slot 5).ring = 1 ∧ (d.slot 5).state = .active ∧ (d.slot 5).outstanding ≠ 0) := by decide

/-- The jobs of that state stand where their slots say. -/
theorem witness_JobsPlaced : closable.JobsPlaced where
  fetching := by decide
  queued := by decide
  once := by decide
  running := by decide
  pending := by decide
  active := by decide
  waiting := by decide
  owing := by decide
  records := by decide
  outstanding := by decide

/-- Lane 15 is free for SET_LANE and lane 3 busy; lane 4, claimed by ring 1, passes for ring 1 and not for ring 4. -/
theorem witness_LanesAreConfiguredAndClaimed :
    let s := (((controlling (landing .active 2)).setJobRing 1 { state := .open, size := 8 }).setJobRing 4
      { state := .open, size := 8 }).modLane 4 fun x => { x with owner := some 1 }
    s.Delivers (read 0) ∧ (s.lane 15).active = none ∧ (s.lane 15).lentTo = none ∧ (s.lane 3).active ≠ none ∧
      (s.lane 4).owner = some 1 ∧ (s.jobRing 1).state = .open ∧ (s.jobRing 4).state = .open ∧
      (((s.modLane 6 fun x => { x with lentTo := some loan }).lane 6).lentTo.map Loan.ring = some 1) := by decide

/-- Lane 4 is lent to the SPAN that still waits for the grant at lane 3's head. -/
def granted : State := controlling (asking.modLane 4 fun x => { x with lentTo := some loan })

/-- Idle lane 15, active lane 3 with a record to wait for, and lent lane 4, none of them held. -/
theorem witness_HoldingALaneHoldsItsJobs :
    let s := controlling (landing .active 2)
    let lent := controlling (spanning (ctx .measuring))
    (s.Delivers (read 0) ∧ (s.lane 15).hold = false ∧ (s.lane 15).lentTo = none ∧ (s.lane 15).active = none) ∧
      ((s.lane 3).hold = false ∧ (s.lane 3).lentTo = none ∧ (s.lane 3).active = some 5) ∧
      (lent.Delivers (read 0) ∧ (lent.lane 4).hold = false ∧ (lent.lane 4).lentTo = some loan ∧
        (lent.lane 4).active = none ∧ (lent.lane 4).ctx = none ∧ (lent.lane 4).loanPhase = .idle ∧
        loan.primary ≠ 4 ∧ (lent.lane loan.primary).active = some loan.slot ∧
        (lent.slot loan.slot).job = some ⟨.span, { highWidth with partner := 4 }⟩ ∧
        Fin.ofNat 16 (4 : Byte).toNat = (4 : LaneId) ∧ (lent.lane loan.primary).ctx = some (ctx .measuring)) ∧
      ((granted.lane 4).lentTo = some loan ∧ (granted.lane 4).active = none ∧ (granted.lane 4).ctx = none ∧
        (granted.lane 4).loanPhase = .idle ∧ (granted.lane 3).active = none ∧
        (granted.lane 3).queue.head? = some loan.slot ∧ (granted.lane 3).loanPhase = .asked) := by decide

/-- The same three lanes held; on the primary the job is HELD by either lane. -/
theorem witness_ReleasingALaneResumesItsJobs :
    let hold := fun (l : LaneId) (s : State) => s.modLane l fun x => { x with hold := true }
    let own := fun c : Context => hold 3 (controlling (active .width highWidth c))
    let marked := { ctx .held with partnerHeld := true }
    let lent := hold 4 (controlling (spanning marked))
    ((hold 15 (controlling idle)).Delivers (read 0) ∧ ((hold 15 (controlling idle)).lane 15).hold = true) ∧
      ((own (ctx .held)).Delivers (read 0) ∧ ((own (ctx .held)).lane 3).hold = true ∧
        ((own (ctx .held)).lane 3).active = some 5 ∧ ((own (ctx .held)).lane 3).ctx = some (ctx .held) ∧
        ((own (ctx .held)).slot 5).job = some ⟨.width, highWidth⟩ ∧ (ctx .held).partnerHeld = false ∧
        ((own marked).lane 3).ctx = some marked ∧ marked.partnerHeld = true) ∧
      (lent.Delivers (read 0) ∧ (lent.lane 4).hold = true ∧ (lent.lane 4).active = none ∧
        (lent.lane 4).lentTo = some loan ∧ (lent.lane 3).active = some 5 ∧ (lent.lane 3).ctx = some marked ∧
        (lent.lane 3).hold = false ∧ ((hold 3 lent).lane 3).hold = true) ∧
      ((hold 4 granted).Delivers (read 0) ∧ ((hold 4 granted).lane 4).hold = true ∧
        ((hold 4 granted).lane 4).lentTo = some loan ∧ ((hold 4 granted).lane 3).active = none) := by decide

/-- The job with tag 7 of ring 1 found in each state, and none with tag 8. -/
theorem witness_JobsAreCancelledAndInspected :
    let s := fun st : SlotState =>
      controlling ((landing st 2).setTagMap 1 (if st = .posting then [] else [⟨7, 5⟩]))
    let d := fun st : SlotState => (s st).delivered (read 0)
      { kindCode := 0x28, tag := 0, request := some (.cancelJob { ring := 1, target := 7 }) }
    (∀ st ∈ [SlotState.pending, .active, .draining],
        (s st).Delivers (read 0) ∧ lookupByte 1 7 (d st) = .live 5 ∧ ((d st).slot 5).stagingLane = some 3 ∧
          ((d st).slot 5).state = st) ∧
      lookupByte 1 7 (d .posting) = .ended ∧ lookupByte 1 8 (d .active) = .absent ∧
      lookupByte 1 7 ((s .active).delivered (read 0)
        { kindCode := 0x29, tag := 0, request := some (.peekJob { ring := 1, target := 7 }) }) = .live 5 := by decide

theorem witness_AFetchFaultMakesTheRingFaulted : (fetching 1).Delivers (read 1) := by decide

/-- A fetch that is not outstanding, one outstanding in FATAL, and the last one of a stop. -/
theorem witness_CompletionsOutsideRunningAreOnlyFinished :
    let last := { State.reset with ctl := .stopping, accesses := [.fetch] }
    finishedAccess (.width {}) = some .fetch ∧ Access.fetch ∉ idle.accesses ∧
      (Access.fetch ∈ { fetching 1 with ctl := .fatal }.accesses ∧ { fetching 1 with ctl := .fatal }.ctl ≠ .running) ∧
      Access.fetch ∈ last.accesses ∧ last.ctl ≠ .running ∧ last.accesses.erase .fetch = [] := by decide

/-! ### Writes to host memory -/

/-- A record that does not fill its buffer, one that does, and one that does with three PROGRESS reports waiting. -/
theorem witness_ALandedRecordIsCounted :
    let merges := landing .draining 1 [progress, progress, progress]
    (∀ s ∈ [landing .active 2, landing .active 1, merges],
        s.ctl = .running ∧ Access.record 3 ∈ s.accesses ∧ (s.lane 3).writeSlot = some record ∧
          ((s.slot 5).state = .active ∨ (s.slot 5).state = .draining)) ∧
      ((landing .active 2).slot 5).landed + 1 ≠ (2 : BitVec 16) ∧
      ((landing .active 1).slot 5).landed + 1 = (1 : BitVec 16) ∧
      ((landing .active 1).slot 5).reports.countP Report.isWaitingProgress < 3 ∧
      3 ≤ (merges.slot 5).reports.countP Report.isWaitingProgress ∧
      (merges.slot 5).reports = [progress, progress] ++ progress :: [] ∧ progress.body = .progress 32 1 1 ∧
      progress.inFlight = false := by decide

/-- Two marks on the record: one of a hold with another still set, and the last one of another hold. -/
theorem witness_DrainMarksCompleteTheirHold :
    let s := ((landing .active 2).modLane 3 fun x =>
      { x with drainMarks := [⟨8, 5, 8⟩, ⟨9, 5, 8⟩, ⟨9, 5, 7⟩] }).setSlot 8
        { state := .waiting, wait := .hold 2 3 1 7 false }
    let s := s.setSlot 9 { state := .waiting, wait := .hold 1 3 1 7 false }
    ((s.lane 3).drainMarks.filter fun m =>
        [record].any fun r => decide (r.slot = m.recordSlot ∧ r.index = m.recordIndex)) = [⟨8, 5, 8⟩, ⟨9, 5, 8⟩] ∧
      (s.slot 8).wait = .hold 2 3 1 7 false ∧ (s.slot 9).wait = .hold 1 3 1 7 false ∧ (s.slot 5).wait = .none := by decide

theorem witness_AFaultedRecordEndsItsJob :
    ∀ s ∈ [landing .active 2, landing .draining 2],
      s.ctl = .running ∧ Access.record 3 ∈ s.accesses ∧ (s.lane 3).writeSlot = some record ∧
        ((s.slot 5).state = .active ∨ (s.slot 5).state = .draining) := by decide

theorem witness_APostedReportAdvancesTheRing :
    (posting.ctl = .running ∧ Access.report 1 ∈ posting.accesses ∧ (posting.poster 1).inFlight = some (.slot 5) ∧
        (posting.poster 1).queue = 5 :: [] ∧ (posting.slot 5).reports = { final with inFlight := true } :: []) ∧
      (postingEvent.ctl = .running ∧ Access.report 0 ∈ postingEvent.accesses ∧
        (postingEvent.poster 0).inFlight = some .event) := by decide

/-- A slot whose FINAL is discarded, and one whose PROGRESS is; no slot waits for a close. -/
theorem witness_ReportWriteFaults :
    let s := (posting.modPoster 1 fun p => { p with queue := [5, 6] }).setSlot 6
      { state := .active, ring := 1, reports := [progress] }
    (postingEvent.ctl = .running ∧ Access.report 0 ∈ postingEvent.accesses ∧
        (postingEvent.poster 0).inFlight = some .event) ∧
      (s.ctl = .running ∧ Access.report 1 ∈ s.accesses ∧ (s.poster 1).inFlight ≠ none ∧
        (∀ r : RingId, (s.jobRing r).closer = none) ∧ (s.slot 5).wait = .none ∧ (s.slot 6).wait = .none ∧
        (∃ r ∈ (s.slot 5).reports.take ((s.poster 1).queue.count 5), r.isFinal = true) ∧
        (∀ r ∈ (s.slot 6).reports.take ((s.poster 1).queue.count 6), r.isFinal = false)) := by decide

theorem witness_AcceptanceFreesThePort :
    idle.port.busy = none ∧ { idle with port := { busy := some (.message 5) } }.port.busy = some (.message 5) := by decide

/-! ### Loans -/

/-- A message is the oldest of its two lanes with one of other lanes before it; partner lane 4 idle, occupied, and with
a place taken by the same primary and by another; a grant that matches and one that does not. -/
theorem witness_LoanRequestsAndGrants :
    let request : LoanMsg := ⟨3, 4, .request, loan⟩
    let grant : LoanMsg := ⟨4, 3, .grant, loan⟩
    let other : LoanMsg := ⟨3, 5, .placeOpen, loan⟩
    { asking with loanMsgs := [other, request] }.OldestLoan request [other] [] ∧
      (sent grant asking).OldestLoan grant [] [] ∧
      ((asking.lane 4).place = none ∧ (asking.lane 4).active = none ∧ (asking.lane 4).lentTo = none ∧
        (asking.lane 4).hold = false ∧ (asking.lane 4).queue = []) ∧
      ((asking.modLane 4 fun x => { x with queue := [9] }).lane 4).queue ≠ [] ∧
      ((asking.modLane 4 fun x => { x with place := some { loan with number := 0 } }).lane 4).place =
        some { loan with number := 0 } ∧
      ((asking.modLane 4 fun x => { x with place := some { loan with primary := 6 } }).lane 4).place =
        some { loan with primary := 6 } ∧
      ((asking.lane 3).loanPhase = .asked ∧ (asking.lane 3).loanNumber = loan.number ∧
        (asking.lane 3).queue = loan.slot :: [] ∧
        (asking.slot loan.slot).job = some ⟨.span, { highWidth with partner := 4 }⟩) ∧
      (asking.lane 3).loanNumber ≠ { loan with number := 0 }.number := by decide

/-- Each message as the oldest of its lanes; a place-open notice to a DEFERRED head for that partner; a message that is
not the oldest. -/
theorem witness_LoanDefersWithdrawsReturnsAndNotices :
    let msg := fun (src dst : LaneId) (k : LoanMsgKind) => ({ src := src, dst := dst, kind := k, loan := loan } : LoanMsg)
    let deferred := asking.modLane 3 fun x => { x with loanPhase := .deferred }
    (∀ k ∈ [LoanMsgKind.defer, .placeOpen], (sent (msg 4 3 k) deferred).OldestLoan (msg 4 3 k) [] []) ∧
      (∀ k ∈ [LoanMsgKind.withdraw, .return], (sent (msg 3 4 k) idle).OldestLoan (msg 3 4 k) [] []) ∧
      ((deferred.lane 3).queue = 5 :: [] ∧
        (deferred.slot 5).job = some ⟨.span, { highWidth with partner := 4 }⟩ ∧
        Fin.ofNat 16 (4 : Byte).toNat = (msg 4 3 .placeOpen).src ∧ (deferred.lane 3).loanPhase = .deferred ∧
        (deferred.lane 3).active = none ∧ (deferred.lane 3).lentTo = none ∧ (deferred.lane 3).hold = false) ∧
      ((idle.lane 3).queue.head? = none) ∧
      ([msg 4 3 .defer, msg 4 3 .grant].find? fun q => decide (q.src = 4 ∧ q.dst = 3)).map LoanMsg.kind ≠
        some .grant := by decide

/-! ### The register window and the controller -/

/-- A report ring of four with its tail at 2 and its head at 1. -/
def consuming (inFlight : Option ReportSource) (head : Nat) : State :=
  idle.setPoster 3 { state := .open, size := 4, tail := 2, head := head, inFlight := inFlight }

/-- The last index of a ring and the size; the head at the tail and one place further, with and without a write in
flight; the head already on the place in flight. -/
theorem witness_IndexWritesMoveTailAndHead :
    let q := (idle.setJobRing 2 { state := .open, size := 16 }).jobRing 2
    let p := (consuming none 1).poster 3
    let w := (consuming (some (.slot 5)) 3).poster 3
    State.reset.ctl ≠ .running ∧ idle.ctl = .running ∧ q.state = .open ∧ 15 < q.size ∧ q.size ≤ 16 ∧
      (idle.jobRing 2).state ≠ .open ∧ p.state = .open ∧ p.inFlight = none ∧
      (p.tail + p.size - p.head) % p.size = 1 ∧ (p.head + 1) % p.size = 2 ∧
      (∀ k ≤ 1, 3 ≠ (p.head + k) % p.size) ∧ p.size ≤ 4 ∧
      ((consuming (some (.slot 5)) 1).poster 3).head ≠ (2 + 1) % 4 ∧ (1 + 2) % 4 = 3 ∧
      w.state = .open ∧ w.inFlight ≠ none ∧ w.head = (w.tail + 1) % w.size ∧ 2 ≠ w.head := by decide

theorem witness_PosterSound :
    ((consuming none 1).poster 3).Sound ∧ ((consuming (some (.slot 5)) 3).poster 3).Sound := by
  refine ⟨⟨by decide, by decide, by decide, by decide⟩, ⟨by decide, by decide, by decide, by decide⟩⟩

/-- A configuration at the ends of the ranges. -/
def configured : State :=
  { State.reset with cringJobSize := 2, cringRptSize := 4096, cringJobBase := 64, cringRptBase := 32 }

theorem witness_StopsSound : configured.StopsSound where
  dropped _ :=
    { slots := rfl, tagMaps := rfl, jobRings := rfl, posters := rfl, pointer := rfl, fetch := rfl, events := rfl
      eventsLost := rfl, messages := rfl, loanMsgs := rfl, lanes := by decide }
  off := by decide
  stopping := by decide

theorem witness_StartUpOpensTheControlRings :
    ctrlWrite (.startUp true) = some (true, true) ∧ ctrlWrite (.registerWrite 0 .word 3) = some (true, true) ∧
      configured.ctl = .off ∧ configured.ValidConfig ∧ ¬ { configured with cringRptSize := 4097 }.ValidConfig := by decide

theorem witness_InterruptEnableChanges :
    ctrlWrite (.interruptEnableSet true) = some (true, true) ∧ ctrlWrite (.stop true) = some (false, true) ∧
      { idle with ctl := .stopping }.ctl = .stopping ∧ State.reset.ctl = .off ∧ { idle with ctl := .fatal }.ctl = .fatal ∧
      idle.ctl = .running ∧ idle.interruptEnable = false ∧ { idle with interruptEnable := true }.interruptEnable := by
  decide

theorem witness_StopDropsAllWork :
    ctrlWrite (.interruptEnableClear false) = some (false, false) ∧ (fetching 1).ctl = .running ∧
      { idle with ctl := .fatal }.ctl = .fatal ∧ State.reset.ctl = .off ∧
      { State.reset with ctl := .stopping, accesses := [.fetch] }.accesses.length = 1 ∧
      2 ≤ { State.reset with ctl := .stopping, accesses := [.fetch, .message] }.accesses.length := by decide

/-- An offset of each kind: a register, the first and the last of each array, one of no register, one not aligned. -/
theorem witness_RegisterWindowRoutesEachWord :
    (0x013#12).toNat % 4 ≠ 0 ∧ (∀ o ∈ [0x100#12, 0x11C#12], o.toNat % 4 = 0 ∧ 0x100 ≤ o.toNat ∧ o.toNat < 0x100 + 32) ∧
      (∀ o ∈ [0x140#12, 0x15C#12], o.toNat % 4 = 0 ∧ 0x140 ≤ o.toNat ∧ o.toNat < 0x140 + 32) ∧
      (0x120#12).toNat ∉ [0x000, 0x010, 0x014, 0x018, 0x01C, 0x020] ∧ ¬ (0x120#12).toNat < 0x100 + 32 ∧
      ¬ 0x140 ≤ (0x120#12).toNat ∧ State.reset.ctl = .off ∧ idle.ctl ≠ .off := by decide

/-- Each state of the controller is entered by some command. -/
theorem witness_ControllerStatesAndTheFatalFreeze :
    (∃ t, exec (.startUp true) configured = .next t ∧ t.ctl = .running) ∧
      (∃ t, exec .ring0ReportWriteFault postingEvent = .next t ∧ t.ctl = .fatal) ∧
      (∃ t, exec .pcieReset (fetching 1) = .next t ∧ t.ctl = .stopping) ∧
      (∃ t, exec (.baseTick 0) { idle with ctl := .fatal } = .next t ∧ t.ctl = .fatal) ∧
      (∃ t, exec .pcieReset idle = .next t ∧ t.ctl = .off) :=
  ⟨⟨_, rfl, rfl⟩, ⟨_, rfl, rfl⟩, ⟨_, rfl, rfl⟩, ⟨_, rfl, rfl⟩, ⟨_, rfl, rfl⟩⟩

/-! ### What every step keeps, and entries -/

/-- A state in the middle of a run, with a command waiting. -/
def midrun : State := { landing .active 1 with pending := [.recordWriteCompletion 3] }

theorem witness_EveryStepKeepsTheBounds :
    (midrun.Bounded ∧ midrun.MessagesDistinct ∧ midrun.RingsSound ∧ midrun.WritesOpen) ∧ ∃ t, step midrun = .next t :=
  ⟨⟨⟨by decide, by decide, by decide, by decide, by decide⟩, List.nodup_nil,
    ⟨fun r => ⟨by revert r; decide, by revert r; decide, by revert r; decide⟩,
      fun n => ⟨by revert n; decide, by revert n; decide, by revert n; decide, by revert n; decide⟩, by decide⟩,
      fun n => by revert n; decide⟩, ⟨_, rfl⟩⟩

theorem witness_EveryStepKeepsLanesAndTagsSound :
    (midrun.LanesSound ∧ midrun.TagsSound) ∧ ∃ t, step midrun = .next t :=
  ⟨⟨fun l =>
    ⟨by revert l; decide, by revert l; decide, by revert l; decide, by revert l; decide, by revert l; decide⟩,
    ⟨by decide, by decide⟩⟩, ⟨_, rfl⟩⟩

theorem witness_EveryStepKeepsTheStopsSound : midrun.StopsSound ∧ ∃ t, step midrun = .next t :=
  ⟨⟨by rintro (h | h) <;> exact absurd h (by decide), by decide, by decide⟩, ⟨_, rfl⟩⟩

theorem witness_EveryStepKeepsTheJobsPlaced :
    midrun.Bounded ∧ midrun.LanesSound ∧ midrun.JobsPlaced ∧ ∃ t, step midrun = .next t :=
  ⟨⟨by decide, by decide, by decide, by decide, by decide⟩,
    fun l => ⟨by revert l; decide, by revert l; decide, by revert l; decide, by revert l; decide, by revert l; decide⟩,
    ⟨by decide, by decide, by decide, by decide, by decide, by decide, by decide, by decide, by decide, by decide⟩,
    ⟨_, rfl⟩⟩

/-- The bytes of an entry, and those bytes with every reserved bit set. -/
theorem witness_EntriesRecordsAndReportsHaveTheirBytes :
    (Instr.holdLane { tag := 7, lane := 3 }).wf = true ∧
      ∃ b, encodeEntry (.holdLane { tag := 7, lane := 3 }) = some b ∧
        ∀ run ∈ fieldRuns (.holdLane { tag := 7, lane := 3 }),
          b.extractLsb' run.1 run.2 = b.extractLsb' run.1 run.2 :=
  ⟨rfl, _, rfl, fun _ _ => rfl⟩

end Sys2Proof.Tests.Slice0
end

section
/-! SUPPORT. What the commands do to the filter half of a Lane Engine: the blocks that run jobs, reports and loans may
read a lane's configuration, its filtered level, its candidate and the arrivals it has formed, and write none of them
(`samplers`). -/

namespace Sys2Proof.Machine

/-! ### The filter half of a lane -/

/-- A lane's sampler and glitch filter alone, with its configuration (R1 to R4, R16): every field that runs a job is
blank. -/
def Lane.sampler (x : Lane) : Lane :=
  { filterWidth := x.filterWidth
    invert := x.invert
    filtered := x.filtered
    candidate := x.candidate
    formed := x.formed }

@[simp] theorem Lane.sampler_eq_iff (x y : Lane) :
    x.sampler = y.sampler ↔
      x.filterWidth = y.filterWidth ∧ x.invert = y.invert ∧ x.filtered = y.filtered ∧
        x.candidate = y.candidate ∧ x.formed = y.formed := by
  simp [Lane.sampler]

/-- The samplers and glitch filters of the sixteen lanes. -/
def samplers (lanes : Vector Lane 16) : Vector Lane 16 := lanes.map Lane.sampler

/-- Lane by lane, the samplers are those of the lanes. -/
theorem sampler_lane_of_samplers {s t : State} (h : samplers t.lanes = samplers s.lanes) (l : LaneId) :
    (t.lane l).sampler = (s.lane l).sampler := by
  have hl : (samplers t.lanes)[l] = (samplers s.lanes)[l] := by rw [h]
  simpa only [samplers, State.lane, Fin.getElem_fin, Vector.getElem_map] using hl

section
variable (s : State)

@[simp] theorem samplers_setLane (l : LaneId) (x : Lane) (h : x.sampler = (s.lane l).sampler) :
    samplers (s.setLane l x).lanes = samplers s.lanes := by
  unfold samplers State.setLane
  rw [Vector.map_set, h]
  ext i hi
  by_cases hil : l.val = i
  · subst hil; simp [State.lane]
  · simp [hil]

/-- An update of a lane's job fields leaves the samplers. -/
@[simp] theorem samplers_modLane (l : LaneId) (f : Lane → Lane) (h : ∀ x : Lane, (f x).sampler = x.sampler) :
    samplers (s.modLane l f).lanes = samplers s.lanes := samplers_setLane s l _ (h _)

/-- A fold leaves the samplers when each of its steps does. -/
theorem samplers_foldl {α : Type} (f : State → α → State)
    (h : ∀ (s : State) (a : α), samplers (f s a).lanes = samplers s.lanes) (l : List α) :
    ∀ s : State, samplers (l.foldl f s).lanes = samplers s.lanes := by
  induction l with
  | nil => exact fun _ => rfl
  | cons a l ih => exact fun s => (ih (f s a)).trans (h s a)

/-! ### Reports, messages and events write no lane -/

@[simp] theorem raiseEvent_lanes (e : EventReport) : (raiseEvent e s).lanes = s.lanes := by
  unfold raiseEvent; split <;> rfl

@[simp] theorem pushReport_lanes (j : SlotId) (body : ReportBody) : (pushReport j body s).lanes = s.lanes := rfl

@[simp] theorem completeClose_lanes (r : RingId) (c : SlotId) (ended waited : Nat) :
    (completeClose r c ended waited s).lanes = s.lanes := rfl

@[simp] theorem countFreed_lanes (r : RingId) : (countFreed r s).lanes = s.lanes := by
  unfold countFreed
  split
  · rfl
  · split
    · split <;> rfl
    · rfl

@[simp] theorem freeSlot_lanes (j : SlotId) : (freeSlot j s).lanes = s.lanes := by simp [freeSlot]

@[simp] theorem dropHead_lanes (n : RingId) : (dropHead n s).lanes = s.lanes := by
  unfold dropHead
  split
  · rfl
  · split
    · rfl
    · simp only
      split <;> simp

@[simp] theorem dropHeads_lanes (k : Nat) (n : RingId) : ∀ s : State, (dropHeads k n s).lanes = s.lanes := by
  induction k with
  | zero => exact fun _ => rfl
  | succ k ih => exact fun s => (ih _).trans (dropHead_lanes s n)

@[simp] theorem createReport_lanes (j : SlotId) (body : ReportBody) : (createReport j body s).lanes = s.lanes := by
  unfold createReport
  simp only
  split <;> simp

@[simp] theorem reportRetirement_lanes (j : SlotId) (b : Buffer) : (reportRetirement j b s).lanes = s.lanes := by
  unfold reportRetirement; split <;> simp

@[simp] theorem answer_lanes (j : SlotId) (st : Status) (body : FinalBody) : (answer j st body s).lanes = s.lanes := by
  simp [answer]

@[simp] theorem passVector_lanes (v : Vec) : (passVector v s).lanes = s.lanes := by
  unfold passVector; split <;> rfl

@[simp] theorem requestMessage_lanes (n : RingId) : (requestMessage n s).lanes = s.lanes := by
  unfold requestMessage; split <;> simp

@[simp] theorem countPosted_lanes (n : RingId) : (countPosted n s).lanes = s.lanes := by
  unfold countPosted
  simp only
  split
  · simp
  · split <;> simp

@[simp] theorem completeCancel_lanes (c : SlotId) : (completeCancel c s).lanes = s.lanes := by
  unfold completeCancel; split <;> simp

@[simp] theorem enterPosting_lanes (j : SlotId) : (enterPosting j s).lanes = s.lanes := by
  unfold enterPosting
  simp only
  split <;> simp

@[simp] theorem finishDraining_lanes (j : SlotId) : (finishDraining j s).lanes = s.lanes := by
  unfold finishDraining; split <;> simp

@[simp] theorem lowerHold_lanes (h : SlotId) : (lowerHold h s).lanes = s.lanes := by
  unfold lowerHold
  split
  · split <;> simp
  · rfl

@[simp] theorem landRecord_lanes (j : SlotId) : (landRecord j s).lanes = s.lanes := by
  unfold landRecord
  simp only
  split
  · rfl
  · split <;> simp

@[simp] theorem takeReportCompletion_lanes (n : RingId) : (takeReportCompletion n s).lanes = s.lanes := by
  unfold takeReportCompletion
  split
  · rfl
  · simp only
    split <;> simp

@[simp] theorem takeReportFault_lanes (n : RingId) : (takeReportFault n s).lanes = s.lanes := by
  unfold takeReportFault; split <;> simp

@[simp] theorem takeFetchFault_lanes : (takeFetchFault s).lanes = s.lanes := by
  unfold takeFetchFault
  split
  · rfl
  · split <;> simp

@[simp] theorem takeCoalescing_lanes (n : RingId) : (takeCoalescing n s).lanes = s.lanes := by
  unfold takeCoalescing; split <;> simp

/-! ### Activation and loans -/

@[simp] theorem samplers_activateHead (l : LaneId) : samplers (activateHead l s).lanes = samplers s.lanes := by
  unfold activateHead; split <;> simp

@[simp] theorem samplers_sendLoanRequest (l : LaneId) (h : SlotId) :
    samplers (sendLoanRequest l h s).lanes = samplers s.lanes := by simp [sendLoanRequest]

@[simp] theorem sendPlaceOpen_lanes (l : LaneId) (loan : Loan) : (sendPlaceOpen l loan s).lanes = s.lanes := by
  unfold sendPlaceOpen
  generalize allLanes = ls
  induction ls generalizing s with
  | nil => rfl
  | cons m ls ih =>
    rw [List.foldl_cons, ih]
    split <;> rfl

@[simp] theorem samplers_grantLoan (l : LaneId) (loan : Loan) :
    samplers (grantLoan l loan s).lanes = samplers s.lanes := by simp [grantLoan]

@[simp] theorem samplers_laneAct (l : LaneId) : samplers (laneAct l s).lanes = samplers s.lanes := by
  unfold laneAct
  split
  · split
    · rfl
    · split
      · split <;> simp
      · simp
  · split
    · split <;> simp
    · rfl

@[simp] theorem samplers_withdrawHead (l : LaneId) : samplers (withdrawHead l s).lanes = samplers s.lanes := by
  unfold withdrawHead
  refine (samplers_modLane _ l _ fun _ => by simp).trans ?_
  split
  · rfl
  · split <;> rfl

@[simp] theorem samplers_leaveQueue (l : LaneId) (j : SlotId) :
    samplers (leaveQueue l j s).lanes = samplers s.lanes := by
  unfold leaveQueue
  simp only
  split <;> simp

@[simp] theorem samplers_takeLoanRequest (p : LaneId) (loan : Loan) :
    samplers (takeLoanRequest p loan s).lanes = samplers s.lanes := by
  unfold takeLoanRequest
  split
  · split <;> simp
  · split <;> simp

@[simp] theorem samplers_takeGrant (l p : LaneId) (loan : Loan) :
    samplers (takeGrant l p loan s).lanes = samplers s.lanes := by
  unfold takeGrant; split <;> simp

@[simp] theorem samplers_takeDefer (l : LaneId) (loan : Loan) :
    samplers (takeDefer l loan s).lanes = samplers s.lanes := by
  unfold takeDefer; split <;> simp

@[simp] theorem samplers_takeWithdraw (p : LaneId) (loan : Loan) :
    samplers (takeWithdraw p loan s).lanes = samplers s.lanes := by
  unfold takeWithdraw; split <;> simp

@[simp] theorem samplers_takeReturn (p : LaneId) (loan : Loan) :
    samplers (takeReturn p loan s).lanes = samplers s.lanes := by
  unfold takeReturn; split <;> simp

@[simp] theorem samplers_takePlaceOpen (l p : LaneId) :
    samplers (takePlaceOpen l p s).lanes = samplers s.lanes := by
  unfold takePlaceOpen
  simp only
  split
  · rfl
  · split <;> simp

/-! ### Ends and production -/

@[simp] theorem samplers_returnPartner (l : LaneId) (j : SlotId) :
    samplers (returnPartner l j s).lanes = samplers s.lanes := by
  unfold returnPartner
  simp only
  split
  · split <;> simp
  · rfl

@[simp] theorem samplers_detachActive (l : LaneId) (j : SlotId) (st : Status) :
    samplers (detachActive l j st s).lanes = samplers s.lanes := by simp [detachActive]

@[simp] theorem samplers_lanesAct (l : LaneId) (job : Job) :
    samplers (lanesAct l job s).lanes = samplers s.lanes := by
  unfold lanesAct
  simp only
  split <;> simp

@[simp] theorem samplers_endActive (l : LaneId) (j : SlotId) (st : Status) :
    samplers (endActive l j st s).lanes = samplers s.lanes := by simp [endActive]

@[simp] theorem samplers_detachPending (l : LaneId) (j : SlotId) (st : Status) :
    samplers (detachPending l j st s).lanes = samplers s.lanes := by simp [detachPending]

@[simp] theorem samplers_endPending (l : LaneId) (j : SlotId) (st : Status) :
    samplers (endPending l j st s).lanes = samplers s.lanes := by simp [endPending]

@[simp] theorem samplers_stageOrLose (l : LaneId) (j : SlotId) (index : BitVec 64) (m : Measurement)
    (flags : MeasFlags) : samplers (stageOrLose l j index m flags s).lanes = samplers s.lanes := by
  unfold stageOrLose
  simp only
  split <;> simp

@[simp] theorem samplers_accountProduction (l : LaneId) (j : SlotId) (m : Measurement) (flags : MeasFlags) :
    samplers (accountProduction l j m flags s).lanes = samplers s.lanes := by simp [accountProduction]

@[simp] theorem samplers_produce (l : LaneId) (j : SlotId) (m : Measurement) (next : Context) :
    samplers (produce l j m next s).lanes = samplers s.lanes := by
  unfold produce
  simp only
  split <;> simp

/-! ### Expiries and arrivals -/

@[simp] theorem samplers_takeExpiry (l : LaneId) : samplers (takeExpiry l s).lanes = samplers s.lanes := by
  unfold takeExpiry
  split
  · simp only
    split
    · rfl
    · split <;> simp
  · rfl

@[simp] theorem samplers_takeExpiriesUpTo (k : Nat) (l : LaneId) (t : Stamp) :
    ∀ s : State, samplers (takeExpiriesUpTo k l t s).lanes = samplers s.lanes := by
  induction k with
  | zero => exact fun _ => rfl
  | succ k ih =>
    intro s
    unfold takeExpiriesUpTo
    split
    · rfl
    · split
      · exact (ih _).trans (samplers_takeExpiry s l)
      · rfl

@[simp] theorem samplers_takeExpiriesBefore (l : LaneId) (t : Stamp) :
    samplers (takeExpiriesBefore l t s).lanes = samplers s.lanes := samplers_takeExpiriesUpTo _ l t s

@[simp] theorem samplers_setContext (l : LaneId) (c : Context) :
    samplers (setContext l c s).lanes = samplers s.lanes := by simp [setContext]

@[simp] theorem takeStart_lanes (j : SlotId) : (takeStart j s).lanes = s.lanes := rfl

@[simp] theorem samplers_widthArrival (l : LaneId) (j : SlotId) (c : Context) (a : Arrival) :
    samplers (widthArrival l j c a s).lanes = samplers s.lanes := by
  unfold widthArrival
  simp only
  split
  · split <;> simp
  · split <;> simp
  · rfl

@[simp] theorem samplers_cyclesArrival (l : LaneId) (j : SlotId) (c : Context) (a : Arrival) :
    samplers (cyclesArrival l j c a s).lanes = samplers s.lanes := by
  unfold cyclesArrival
  simp only
  split
  · split
    · simp
    · split <;> simp
    · rfl
  · rfl

@[simp] theorem samplers_spanArrival (l : LaneId) (j : SlotId) (src : LaneId) (c : Context) (a : Arrival) :
    samplers (spanArrival l j src c a s).lanes = samplers s.lanes := by
  unfold spanArrival
  simp only
  split
  · split <;> simp
  · split <;> simp
  · rfl

@[simp] theorem samplers_windowArrival (l : LaneId) (j : SlotId) (c : Context) (a : Arrival) :
    samplers (windowArrival l j c a s).lanes = samplers s.lanes := by
  unfold windowArrival
  simp only
  split
  · split <;> simp
  · simp
  · rfl

@[simp] theorem samplers_arrivalAtContext (l src : LaneId) (a : Arrival) :
    samplers (arrivalAtContext l src a s).lanes = samplers s.lanes := by
  unfold arrivalAtContext
  split
  · split
    · rfl
    · split <;> simp
  · rfl

@[simp] theorem samplers_arrivalNow (l : LaneId) (a : Arrival) :
    samplers (arrivalNow l a s).lanes = samplers s.lanes := by
  unfold arrivalNow; split <;> simp

@[simp] theorem samplers_takeAligned (l : LaneId) : samplers (takeAligned l s).lanes = samplers s.lanes := by
  unfold takeAligned
  split
  · split
    · rfl
    · split
      · simp only
        split <;> simp
      · rfl
  · rfl

@[simp] theorem samplers_takeAlignedUpTo (k : Nat) (l : LaneId) :
    ∀ s : State, samplers (takeAlignedUpTo k l s).lanes = samplers s.lanes := by
  induction k with
  | zero => exact fun _ => rfl
  | succ k ih => exact fun s => (ih _).trans (samplers_takeAligned s l)

@[simp] theorem samplers_takeArrival (l : LaneId) (a : Arrival) :
    samplers (takeArrival l a s).lanes = samplers s.lanes := by
  unfold takeArrival
  split
  · rfl
  · split
    · split
      · rfl
      · split
        · simp only
          split <;> simp
        · simp
    · rfl

@[simp] theorem samplers_takeStartLimit (j : SlotId) : samplers (takeStartLimit j s).lanes = samplers s.lanes := by
  unfold takeStartLimit
  split
  · rfl
  · split <;> simp

/-! ### Dispatched entries -/

@[simp] theorem samplers_acceptOffer (r : RingId) (j : SlotId) (e : MeasEntry) (l : LaneId) :
    samplers (acceptOffer r j e l s).lanes = samplers s.lanes := by
  unfold acceptOffer
  simp only
  split <;> simp

@[simp] theorem samplers_dispatchMeasurement (kind : MeasKind) (e : MeasEntry) (r : RingId) (j : SlotId) :
    samplers (dispatchMeasurement kind e r j s).lanes = samplers s.lanes := by
  unfold dispatchMeasurement
  split
  · simp
  · split
    · simp
    · split <;> simp

@[simp] theorem dispatchAddBuffer_lanes (e : AddBufferEntry) (r : RingId) (j : SlotId) :
    (dispatchAddBuffer e r j s).lanes = s.lanes := by
  unfold dispatchAddBuffer
  split
  · simp
  · split
    · simp
    · split
      · simp
      · split
        · simp
        · split <;> simp

/-! ### Record writes -/

@[simp] theorem samplers_clearMarks (l : LaneId) (gone : List ResultRecord) :
    samplers (clearMarks l gone s).lanes = samplers s.lanes := by
  unfold clearMarks
  exact (samplers_foldl _ (fun s m => by simp) _ _).trans (samplers_modLane s l _ fun _ => rfl)

@[simp] theorem samplers_takeRecordCompletion (l : LaneId) :
    samplers (takeRecordCompletion l s).lanes = samplers s.lanes := by
  unfold takeRecordCompletion
  split
  · rfl
  · simp only
    split <;> simp

@[simp] theorem samplers_takeRecordFault (l : LaneId) :
    samplers (takeRecordFault l s).lanes = samplers s.lanes := by
  unfold takeRecordFault
  split
  · rfl
  · simp only
    split
    · split <;> simp
    · simp

/-! ### Control requests, SET_LANE apart -/

@[simp] theorem openReportRing_lanes (e : OpenReportRingEntry) (j : SlotId) :
    (openReportRing e j s).lanes = s.lanes := by
  unfold openReportRing; split <;> simp

@[simp] theorem closeReportRing_lanes (e : CloseRingEntry) (j : SlotId) : (closeReportRing e j s).lanes = s.lanes := by
  unfold closeReportRing; split <;> simp

@[simp] theorem openJobRing_lanes (e : OpenJobRingEntry) (j : SlotId) : (openJobRing e j s).lanes = s.lanes := by
  unfold openJobRing; split <;> simp

@[simp] theorem samplers_closePending (r : RingId) (j : SlotId) :
    samplers (closePending r j s).lanes = samplers s.lanes := by
  unfold closePending
  split
  · rfl
  · split <;> simp

@[simp] theorem samplers_closeActive (r : RingId) (j : SlotId) :
    samplers (closeActive r j s).lanes = samplers s.lanes := by
  unfold closeActive
  split
  · rfl
  · split <;> simp

@[simp] theorem samplers_releaseClaims (r : RingId) : samplers (releaseClaims r s).lanes = samplers s.lanes := by
  refine samplers_foldl _ (fun s l => ?_) _ s
  split <;> simp

@[simp] theorem samplers_changedLanesAct (before : State) :
    samplers (changedLanesAct before s).lanes = samplers s.lanes :=
  samplers_foldl _ (fun s l => samplers_laneAct s l) _ s

@[simp] theorem samplers_closeRingWork (r : RingId) : samplers (closeRingWork r s).lanes = samplers s.lanes := by
  simp [closeRingWork, samplers_foldl]

@[simp] theorem samplers_closeJobRing (e : CloseRingEntry) (j : SlotId) :
    samplers (closeJobRing e j s).lanes = samplers s.lanes := by
  unfold closeJobRing
  split
  · simp
  · simp only
    split <;> simp

@[simp] theorem samplers_claimLane (e : ClaimLaneEntry) (j : SlotId) :
    samplers (claimLane e j s).lanes = samplers s.lanes := by
  unfold claimLane; split <;> simp

@[simp] theorem samplers_setMark (j : SlotId) (l : LaneId) : samplers (setMark j l s).lanes = samplers s.lanes := by
  unfold setMark; split <;> simp

@[simp] theorem samplers_holdNotice (p : LaneId) (loan : Loan) :
    samplers (holdNotice p loan s).lanes = samplers s.lanes := by
  unfold holdNotice
  simp only
  split
  · simp
  · split <;> simp

@[simp] theorem samplers_holdLanes (j : SlotId) (l : LaneId) : samplers (holdLanes j l s).lanes = samplers s.lanes := by
  unfold holdLanes
  simp only
  refine (samplers_foldl _ (fun s m => samplers_setMark s j m) _ _).trans ?_
  split <;> simp [holdLaneContext]

@[simp] theorem samplers_holdLane (e : LaneEntry) (j : SlotId) :
    samplers (holdLane e j s).lanes = samplers s.lanes := by
  unfold holdLane
  split
  · simp
  · split
    · simp
    · simp only
      split <;> simp

@[simp] theorem samplers_resumeLane (l : LaneId) : samplers (resumeLane l s).lanes = samplers s.lanes := by
  unfold resumeLane; split <;> simp

@[simp] theorem samplers_releaseNotice (p : LaneId) (loan : Loan) :
    samplers (releaseNotice p loan s).lanes = samplers s.lanes := by
  unfold releaseNotice
  simp only
  split
  · simp
  · split <;> simp

@[simp] theorem samplers_clearHold (l : LaneId) : samplers (clearHold l s).lanes = samplers s.lanes := by
  unfold clearHold
  simp only
  split <;> simp

@[simp] theorem samplers_releaseLane (e : LaneEntry) (j : SlotId) :
    samplers (releaseLane e j s).lanes = samplers s.lanes := by
  unfold releaseLane
  split
  · simp
  · split
    · simp only [answer_lanes, samplers_laneAct]
      split <;> simp
    · simp

@[simp] theorem awaitTarget_lanes (e : JobNameEntry) (j t : SlotId) : (awaitTarget e j t s).lanes = s.lanes := rfl

@[simp] theorem samplers_cancelJob (e : JobNameEntry) (j : SlotId) :
    samplers (cancelJob e j s).lanes = samplers s.lanes := by
  unfold cancelJob
  split
  · simp
  · simp
  · simp only
    split <;> simp

@[simp] theorem peekJob_lanes (e : JobNameEntry) (j : SlotId) : (peekJob e j s).lanes = s.lanes := by
  unfold peekJob; split <;> simp

/-! ### The decisions that close an event -/

@[simp] theorem movePointer_lanes (r : RingId) : (movePointer r s).lanes = s.lanes := by
  unfold movePointer
  split
  · rfl
  · split <;> rfl

@[simp] theorem issueFetch_lanes (r : RingId) (j : SlotId) : (issueFetch r j s).lanes = s.lanes := by
  unfold issueFetch
  simp only
  split <;> rfl

@[simp] theorem fetchDecision_lanes : (fetchDecision s).lanes = s.lanes := by
  unfold fetchDecision
  split
  · split <;> simp
  · rfl

@[simp] theorem samplers_grantLane (l : LaneId) : samplers (grantLane l s).lanes = samplers s.lanes := by
  unfold grantLane; split <;> simp

@[simp] theorem grantPoster_lanes (n : RingId) : (grantPoster n s).lanes = s.lanes := by
  unfold grantPoster
  split
  · rfl
  · split
    · rfl
    · split <;> rfl

@[simp] theorem grantGenerator_lanes : (grantGenerator s).lanes = s.lanes := by
  unfold grantGenerator; split <;> rfl

@[simp] theorem samplers_grantAt (k : Fin 25) : samplers (grantAt k s).lanes = samplers s.lanes := by
  unfold grantAt
  simp only
  split
  · simp
  · split <;> simp

@[simp] theorem samplers_portDecision : samplers (portDecision s).lanes = samplers s.lanes := by
  unfold portDecision
  split
  · split <;> simp
  · rfl

@[simp] theorem samplers_settle : samplers (settle s).lanes = samplers s.lanes := by simp [settle]

end

end Sys2Proof.Machine
end

section
/-! SUPPORT. What the commands leave of time (R13, R14): all but BASE_TICK, POWER_ON and TIME_LO_READ keep the count and
the TIME_HI latch and form no transition (`exec_keepsTime`). -/

namespace Sys2Proof.Machine

/-! ### The count, its latch and the transitions -/

/-- Count and latch are the same in `t`, and every candidate and every arrival of `t` stands in `s` already. -/
structure State.TimeKept (s t : State) : Prop where
  timebase : t.timebase = s.timebase
  timeHi : t.timeHi = s.timeHi
  candidate : ∀ (l : LaneId) (stamp : Stamp), (t.lane l).candidate = some stamp → (s.lane l).candidate = some stamp
  formed : ∀ l : LaneId, (t.lane l).formed ⊆ (s.lane l).formed

theorem State.TimeKept.refl (s : State) : s.TimeKept s := ⟨rfl, rfl, fun _ _ h => h, fun _ _ h => h⟩

theorem State.TimeKept.trans {s t u : State} (h : s.TimeKept t) (k : t.TimeKept u) : s.TimeKept u where
  timebase := k.timebase.trans h.timebase
  timeHi := k.timeHi.trans h.timeHi
  candidate l stamp hc := h.candidate l stamp (k.candidate l stamp hc)
  formed l _ ha := h.formed l (k.formed l ha)

/-- An action with the controller's frame that writes no sampler keeps time. -/
theorem State.SameController.timeKept {s t : State} (h : s.SameController t) (k : samplers t.lanes = samplers s.lanes) :
    s.TimeKept t := by
  have hs : ∀ l, (t.lane l).candidate = (s.lane l).candidate ∧ (t.lane l).formed = (s.lane l).formed := by
    intro l
    obtain ⟨-, -, -, hc, hf⟩ := (Lane.sampler_eq_iff _ _).mp (sampler_lane_of_samplers k l)
    exact ⟨hc, hf⟩
  exact ⟨h.timebase, h.timeHi, fun l _ hc => (hs l).1 ▸ hc, fun l _ ha => (hs l).2 ▸ ha⟩

/-- A change of other fields than the count, the latch and the lanes keeps time. -/
theorem State.TimeKept.of_fields {s t : State} (htime : t.timebase = s.timebase) (hlatch : t.timeHi = s.timeHi)
    (hlanes : t.lanes = s.lanes) : s.TimeKept t := by
  have hlane : ∀ l, t.lane l = s.lane l := fun l => by simp only [State.lane, hlanes]
  exact ⟨htime, hlatch, fun l _ h => hlane l ▸ h, fun l _ h => hlane l ▸ h⟩

/-- Every state of the outcome, when it is a next state, keeps the time of `s`. -/
def State.KeepsTime (s : State) (o : Host.Outcome State Fault Refusal) : Prop := ∀ t, o = .next t → s.TimeKept t

theorem State.TimeKept.keepsTime {s t : State} (h : s.TimeKept t) : s.KeepsTime (.next t) := by
  rintro _ ⟨⟩
  exact h

section
variable (s : State)

/-- A command that is no event leaves the state. -/
theorem keepsTime_self : s.KeepsTime (.next s) := (State.TimeKept.refl s).keepsTime

/-- A command that is taken under a condition, and is no event else, keeps time when its effect does. -/
theorem keepsTime_ite {s t : State} (p : Prop) [Decidable p] (h : s.TimeKept t) :
    s.KeepsTime (if p then .next t else .next s) := by
  split
  · exact h.keepsTime
  · exact keepsTime_self s

theorem settle_timeKept : s.TimeKept (settle s) := (settle_sameController s).timeKept (samplers_settle s)

/-- An event that acts on the blocks and is closed by the fetch and grant decisions keeps time. -/
theorem State.SameOutside.settle_timeKept {s t : State} (h : s.SameOutside t)
    (k : samplers t.lanes = samplers s.lanes) : s.TimeKept (settle t) :=
  (h.toSameController.timeKept k).trans (Machine.settle_timeKept t)

/-! ### Stops -/

/-- A stop takes the candidates and the arrivals at its end (R180). -/
theorem endStop_timeKept : s.TimeKept (endStop s) where
  timebase := rfl
  timeHi := rfl
  candidate l stamp h := by simp [endStop, State.lane, stoppedLane] at h
  formed l a h := by simp [endStop, State.lane, stoppedLane] at h

theorem endStopIfDone_timeKept : s.TimeKept (endStopIfDone s) := by
  unfold endStopIfDone
  split
  · exact endStop_timeKept s
  · exact .refl s

/-- The lanes keep their filters when a stop begins (R179). -/
theorem beginStop_timeKept : s.TimeKept (beginStop s) := by
  unfold beginStop
  refine State.TimeKept.trans ?_ (endStopIfDone_timeKept _)
  exact
    { timebase := rfl
      timeHi := rfl
      candidate := fun l stamp h => by simpa [State.lane, droppedLane] using h
      formed := fun l a h => by simpa [State.lane, droppedLane] using h }

/-! ### Arrivals, expiries and timers -/

/-- An update of one lane that sets no candidate and forms no arrival there keeps time. -/
theorem modLane_timeKept (l : LaneId) (f : Lane → Lane)
    (hc : ∀ stamp, (f (s.lane l)).candidate = some stamp → (s.lane l).candidate = some stamp)
    (hf : (f (s.lane l)).formed ⊆ (s.lane l).formed) : s.TimeKept (s.modLane l f) := by
  refine ⟨rfl, rfl, fun m stamp h => ?_, fun m a h => ?_⟩
  · by_cases hm : m = l
    · subst hm; exact hc stamp (by simpa using h)
    · rwa [State.lane_modLane_ne s f hm] at h
  · by_cases hm : m = l
    · subst hm; exact hf (by simpa using h)
    · rwa [State.lane_modLane_ne s f hm] at h

theorem execEdgeArrival_keepsTime (l : LaneId) (polarity : Polarity) (stamp : Stamp) :
    s.KeepsTime (execEdgeArrival l polarity stamp s) := by
  unfold execEdgeArrival
  split
  · exact keepsTime_self s
  · next hformed =>
    split
    · refine State.TimeKept.keepsTime (State.TimeKept.trans ?_
        ((takeArrival_sameOutside _ l _).settle_timeKept (samplers_takeArrival _ l _)))
      exact modLane_timeKept s l _ (fun _ h => h) (by simp [hformed])
    · exact keepsTime_self s

theorem execAlignedArrivalDue_keepsTime (l : LaneId) : s.KeepsTime (execAlignedArrivalDue l s) :=
  keepsTime_ite _ ((takeAligned_sameOutside s l).settle_timeKept (by simp))

theorem execWindowEndExpiry_keepsTime (l : LaneId) : s.KeepsTime (execWindowEndExpiry l s) :=
  keepsTime_ite _ ((takeExpiry_sameOutside s l).settle_timeKept (by simp))

theorem execOverflowBoundExpiry_keepsTime (l : LaneId) : s.KeepsTime (execOverflowBoundExpiry l s) :=
  keepsTime_ite _ ((takeExpiry_sameOutside s l).settle_timeKept (by simp))

theorem execStartLimitExpiry_keepsTime (j : SlotId) : s.KeepsTime (execStartLimitExpiry j s) :=
  keepsTime_ite _ ((takeStartLimit_sameOutside s j).settle_timeKept (by simp))

theorem execCoalescingTimerExpiry_keepsTime (n : RingId) : s.KeepsTime (execCoalescingTimerExpiry n s) :=
  keepsTime_ite _ ((takeCoalescing_sameOutside s n).settle_timeKept (by simp))

/-! ### Accesses that finish, and entries -/

theorem finishAccess_timeKept (a : Access) : s.TimeKept (finishAccess a s) := .of_fields rfl rfl rfl

/-- A completion keeps time when the action of its block does. -/
theorem finishing_keepsTime (a : Access) (act : State → State) (h : ∀ s : State, s.TimeKept (act s)) :
    s.KeepsTime (.next (finishing a act s)) := by
  refine State.TimeKept.keepsTime ?_
  unfold finishing
  split
  · refine (finishAccess_timeKept s a).trans ?_
    simp only
    split
    · exact (h _).trans (settle_timeKept _)
    · exact endStopIfDone_timeKept _
  · exact .refl s

/-- An entry keeps time when its dispatch does (R115). -/
theorem fetched_keepsTime (e : Entry) (act : RingId → SlotId → State → State)
    (h : ∀ r j (s : State), s.TimeKept (act r j s)) : s.KeepsTime (fetched e act s) := by
  refine finishing_keepsTime s .fetch _ fun s => ?_
  unfold takeEntry
  split
  · exact .refl s
  · split
    · refine State.TimeKept.trans ?_ (h _ _ _)
      exact .of_fields rfl rfl rfl
    · exact .refl s

theorem dispatchMeasurement_timeKept (kind : MeasKind) (e : MeasEntry) (r : RingId) (j : SlotId) :
    s.TimeKept (dispatchMeasurement kind e r j s) :=
  (dispatchMeasurement_sameOutside s kind e r j).timeKept (samplers_dispatchMeasurement s kind e r j)

theorem answer_timeKept (j : SlotId) (st : Status) (body : FinalBody) : s.TimeKept (answer j st body s) :=
  (answer_sameOutside s j st body).timeKept (by simp)

/-- A control request keeps time when its own steps do (R147). -/
theorem controlEntry_timeKept {tag : Tag} {zeros : FinalBody} {act : SlotId → State → State}
    (h : ∀ j (s : State), s.TimeKept (act j s)) (r : RingId) (j : SlotId) (s : State) :
    s.TimeKept (controlEntry tag zeros act r j s) := by
  unfold controlEntry
  split
  · exact answer_timeKept s _ _ _
  · split
    · exact answer_timeKept s _ _ _
    · exact h j s

/-- SET_LANE clears the candidate and the arrivals of its lane and touches no other (R3, R158). -/
theorem configuredLane_timeKept (l : LaneId) (filter : Byte) (invert raw : Bool) :
    s.TimeKept (s.modLane l (configuredLane filter invert raw)) :=
  modLane_timeKept s l _ (by simp [configuredLane]) (by simp [configuredLane])

theorem setLane_timeKept (e : SetLaneEntry) (j : SlotId) : s.TimeKept (setLane e j s) := by
  unfold setLane
  split
  · exact answer_timeKept s _ _ _
  · exact (configuredLane_timeKept s _ _ _ _).trans (answer_timeKept _ _ _ _)

theorem execAddBuffer_keepsTime (e : AddBufferEntry) : s.KeepsTime (execAddBuffer e s) :=
  fetched_keepsTime s _ _ fun r j s =>
    (dispatchAddBuffer_sameOutside s e r j).timeKept (by simp)

theorem execUndefinedKindEntry_keepsTime (code : Byte) (tag : Tag) :
    s.KeepsTime (execUndefinedKindEntry code tag s) := by
  unfold execUndefinedKindEntry
  split
  · rintro t ⟨⟩
  · exact fetched_keepsTime s _ _ fun _ j s => answer_timeKept s j _ _

/-- The measurement entries (R121). -/
theorem measurement_keepsTime (kind : MeasKind) (e : MeasEntry) :
    s.KeepsTime (fetched (measurementEntry kind e) (dispatchMeasurement kind e) s) :=
  fetched_keepsTime s _ _ fun r j s => dispatchMeasurement_timeKept s kind e r j

/-- The control requests but SET_LANE write no sampler. -/
theorem control_keepsTime (entry : Entry) (tag : Tag) (zeros : FinalBody) {act : SlotId → State → State}
    (h : ∀ j (s : State), s.SameOutside (act j s)) (k : ∀ j (s : State), samplers (act j s).lanes = samplers s.lanes) :
    s.KeepsTime (fetched entry (controlEntry tag zeros act) s) :=
  fetched_keepsTime s entry _ (controlEntry_timeKept fun j s => (h j s).timeKept (k j s))

theorem execFetchReadFault_keepsTime : s.KeepsTime (execFetchReadFault s) :=
  finishing_keepsTime s _ _ fun s => (takeFetchFault_sameController s).timeKept (by simp)

theorem execRecordWriteCompletion_keepsTime (l : LaneId) : s.KeepsTime (execRecordWriteCompletion l s) :=
  finishing_keepsTime s _ _ fun s => (takeRecordCompletion_sameOutside s l).timeKept (by simp)

theorem execRecordWriteFault_keepsTime (l : LaneId) : s.KeepsTime (execRecordWriteFault l s) :=
  finishing_keepsTime s _ _ fun s => (takeRecordFault_sameOutside s l).timeKept (by simp)

theorem execReportWriteCompletion_keepsTime (n : RingId) : s.KeepsTime (execReportWriteCompletion n s) :=
  finishing_keepsTime s _ _ fun s => (takeReportCompletion_sameOutside s n).timeKept (by simp)

theorem execRing0ReportWriteFault_keepsTime : s.KeepsTime (execRing0ReportWriteFault s) := by
  refine finishing_keepsTime s _ _ fun s => ?_
  unfold takeRing0Fault
  split
  · exact .refl s
  · exact .of_fields rfl rfl rfl
  · exact .of_fields rfl rfl rfl

theorem execReportWriteFault_keepsTime (n : RingId) : s.KeepsTime (execReportWriteFault n s) := by
  unfold execReportWriteFault
  split
  · exact execRing0ReportWriteFault_keepsTime s
  · exact finishing_keepsTime s _ _ fun s => (takeReportFault_sameOutside s n).timeKept (by simp)

theorem finishMessage_timeKept (w : PortWrite) : s.TimeKept (finishMessage w s) := by
  unfold finishMessage
  split
  · exact finishAccess_timeKept s _
  · exact .refl s

theorem execWriteAcceptance_keepsTime : s.KeepsTime (execWriteAcceptance s) := by
  unfold execWriteAcceptance
  split
  · exact keepsTime_self s
  · next w _ =>
    have hfree : s.TimeKept (finishMessage w { s with port := { s.port with busy := none } }) := by
      refine State.TimeKept.trans ?_ (finishMessage_timeKept _ w)
      exact .of_fields rfl rfl rfl
    simp only
    split
    · exact (hfree.trans (settle_timeKept _)).keepsTime
    · exact (hfree.trans (endStopIfDone_timeKept _)).keepsTime

/-! ### Loan messages -/

/-- A loan message keeps time when its effect writes no sampler (R54). -/
theorem withLoan_keepsTime (k : LoanMsgKind) (src dst : LaneId) (act : Loan → State → State)
    (h : ∀ loan (s : State), s.SameOutside (act loan s))
    (hs : ∀ loan (s : State), samplers (act loan s).lanes = samplers s.lanes) :
    s.KeepsTime (withLoan k src dst act s) := by
  unfold withLoan takeLoan
  split
  · split
    · exact keepsTime_self s
    · next hmsg =>
      split at hmsg
      · cases hmsg
      · split at hmsg
        · cases hmsg
          refine State.TimeKept.keepsTime (State.TimeKept.trans ?_ ((h _ _).timeKept (hs _ _)))
          exact .of_fields rfl rfl rfl
        · cases hmsg
  · exact keepsTime_self s

/-! ### The register window -/

theorem writeJobTail_timeKept (r : RingId) (v : BitVec 32) : s.TimeKept (writeJobTail r v s) := by
  unfold writeJobTail
  split
  · split
    · exact (modJobRing_sameOutside s r _).settle_timeKept rfl
    · exact (raiseEvent_sameOutside s _).settle_timeKept (by simp)
  · exact .refl s

theorem writeRptHead_timeKept (n : RingId) (v : BitVec 32) : s.TimeKept (writeRptHead n v s) := by
  unfold writeRptHead
  split
  · split
    · exact (modPoster_sameOutside s n _).settle_timeKept rfl
    · exact (raiseEvent_sameOutside s _).settle_timeKept (by simp)
  · exact .refl s

@[simp] theorem samplers_sendPendingMessages : samplers (sendPendingMessages s).lanes = samplers s.lanes := by
  refine samplers_foldl _ (fun s n => ?_) _ s
  split <;> simp

theorem writeInterruptEnable_timeKept (ie : Bool) : s.TimeKept (writeInterruptEnable ie s) := by
  have hfield : s.TimeKept { s with interruptEnable := ie } := .of_fields rfl rfl rfl
  unfold writeInterruptEnable
  simp only
  split
  · exact hfield.trans ((sendPendingMessages_sameOutside _).timeKept (samplers_sendPendingMessages _))
  · exact hfield

theorem clearCredits_timeKept : s.TimeKept (clearCredits s) := by
  unfold clearCredits
  refine State.SameController.timeKept (State.SameOutside.foldl _ ?_ _ s).toSameController (samplers_foldl _ ?_ _ s)
  · exact fun s r => modJobRing_sameOutside s r _
  · exact fun _ _ => rfl

/-- A start leaves the count running (R13, R177). -/
theorem takeStartUp_timeKept : s.TimeKept (takeStartUp s) := by
  have hrings : s.TimeKept ((s.setJobRing 0 (startedJobRing s)).setPoster 0 (startedPoster s)) :=
    .of_fields rfl rfl rfl
  have hcredits := hrings.trans (clearCredits_timeKept _)
  unfold takeStartUp
  generalize clearCredits _ = u at hcredits ⊢
  refine hcredits.trans ?_
  exact .of_fields rfl rfl rfl

theorem writeCtrl_timeKept (enable ie : Bool) : s.TimeKept (writeCtrl enable ie s) := by
  have hfield : s.TimeKept { s with interruptEnable := ie } := .of_fields rfl rfl rfl
  unfold writeCtrl
  split
  · exact .refl s
  · split
    · split
      · exact ((takeStartUp_timeKept s).trans (writeInterruptEnable_timeKept _ ie)).trans (settle_timeKept _)
      · exact .of_fields rfl rfl rfl
    · exact hfield
  · split
    · exact (writeInterruptEnable_timeKept s ie).trans (settle_timeKept _)
    · exact hfield.trans (beginStop_timeKept _)
  · split
    · exact hfield
    · exact hfield.trans (beginStop_timeKept _)

theorem writeControlRing_timeKept (offset : Nat) (v : BitVec 32) : s.TimeKept (writeControlRing offset v s) := by
  unfold writeControlRing
  split
  · (repeat' split) <;> exact .of_fields rfl rfl rfl
  · exact .refl s

theorem writeRegister_timeKept (offset : Nat) (v : BitVec 32) : s.TimeKept (writeRegister offset v s) := by
  unfold writeRegister
  split
  · exact writeCtrl_timeKept s _ _
  · split
    · exact writeJobTail_timeKept s _ v
    · split
      · exact writeRptHead_timeKept s _ v
      · exact writeControlRing_timeKept s _ v

theorem execRegisterWrite_keepsTime (offset : BitVec 12) (w : AccessWidth) (v : BitVec 32) :
    s.KeepsTime (execRegisterWrite offset w v s) :=
  keepsTime_ite _ (writeRegister_timeKept s offset.toNat v)

theorem execStopEnd_keepsTime : s.KeepsTime (execStopEnd s) := by
  refine keepsTime_ite _ (State.TimeKept.trans ?_ (endStop_timeKept _))
  exact .of_fields rfl rfl rfl

theorem execPcieReset_keepsTime : s.KeepsTime (execPcieReset s) := keepsTime_ite _ (beginStop_timeKept s)

end

/-! ### Every command -/

/-- The commands that move the count or the latch: the tick, power-on, and the read of TIME_LO (R13, R14). -/
def MovesTime : Instr → Prop
  | .baseTick _ | .powerOn _ | .timeLoRead => True
  | _ => False

/-- Every other command keeps time. -/
theorem exec_keepsTime (c : Instr) (s : State) (hc : ¬ MovesTime c) : s.KeepsTime (exec c s) := by
  cases c with
  | edgeArrival l polarity stamp => exact execEdgeArrival_keepsTime s l polarity stamp
  | alignedArrivalDue l => exact execAlignedArrivalDue_keepsTime s l
  | windowEndExpiry l => exact execWindowEndExpiry_keepsTime s l
  | overflowBoundExpiry l => exact execOverflowBoundExpiry_keepsTime s l
  | startLimitExpiry j => exact execStartLimitExpiry_keepsTime s j
  | coalescingTimerExpiry n => exact execCoalescingTimerExpiry_keepsTime s n
  | width e => exact measurement_keepsTime s .width e
  | cycles e => exact measurement_keepsTime s .cycles e
  | span e => exact measurement_keepsTime s .span e
  | tally e => exact measurement_keepsTime s .tally e
  | quiet e => exact measurement_keepsTime s .quiet e
  | addBuffer e => exact execAddBuffer_keepsTime s e
  | openReportRing e => exact control_keepsTime s _ _ _ (fun j s => openReportRing_sameOutside s e j) (by simp)
  | closeReportRing e => exact control_keepsTime s _ _ _ (fun j s => closeReportRing_sameOutside s e j) (by simp)
  | openJobRing e => exact control_keepsTime s _ _ _ (fun j s => openJobRing_sameOutside s e j) (by simp)
  | closeJobRing e => exact control_keepsTime s _ _ _ (fun j s => closeJobRing_sameOutside s e j) (by simp)
  | setLane e => exact fetched_keepsTime s _ _ (controlEntry_timeKept fun j s => setLane_timeKept s e j)
  | claimLane e => exact control_keepsTime s _ _ _ (fun j s => claimLane_sameOutside s e j) (by simp)
  | holdLane e => exact control_keepsTime s _ _ _ (fun j s => holdLane_sameOutside s e j) (by simp)
  | releaseLane e => exact control_keepsTime s _ _ _ (fun j s => releaseLane_sameOutside s e j) (by simp)
  | cancelJob e => exact control_keepsTime s _ _ _ (fun j s => cancelJob_sameOutside s e j) (by simp)
  | peekJob e => exact control_keepsTime s _ _ _ (fun j s => peekJob_sameOutside s e j) (by simp)
  | undefinedKindEntry code tag => exact execUndefinedKindEntry_keepsTime s code tag
  | fetchReadFault => exact execFetchReadFault_keepsTime s
  | recordWriteCompletion l => exact execRecordWriteCompletion_keepsTime s l
  | recordWriteFault l => exact execRecordWriteFault_keepsTime s l
  | loanRequest src dst => exact withLoan_keepsTime s _ _ _ _ (fun m s => takeLoanRequest_sameOutside s _ m) (by simp)
  | grant src dst => exact withLoan_keepsTime s _ _ _ _ (fun m s => takeGrant_sameOutside s _ _ m) (by simp)
  | defer src dst => exact withLoan_keepsTime s _ _ _ _ (fun m s => takeDefer_sameOutside s _ m) (by simp)
  | withdraw src dst => exact withLoan_keepsTime s _ _ _ _ (fun m s => takeWithdraw_sameOutside s _ m) (by simp)
  | loanReturn src dst => exact withLoan_keepsTime s _ _ _ _ (fun m s => takeReturn_sameOutside s _ m) (by simp)
  | placeOpenNotice src dst => exact withLoan_keepsTime s _ _ _ _ (fun _ s => takePlaceOpen_sameOutside s _ _) (by simp)
  | reportWriteCompletion n => exact execReportWriteCompletion_keepsTime s n
  | reportWriteFault n => exact execReportWriteFault_keepsTime s n
  | ring0ReportWriteFault => exact execRing0ReportWriteFault_keepsTime s
  | writeAcceptance => exact execWriteAcceptance_keepsTime s
  | jobTailWrite r v => exact (writeJobTail_timeKept s r v).keepsTime
  | rptHeadWrite n v => exact (writeRptHead_timeKept s n v).keepsTime
  | startUp ie => exact (writeCtrl_timeKept s true ie).keepsTime
  | stop ie => exact (writeCtrl_timeKept s false ie).keepsTime
  | stopEnd => exact execStopEnd_keepsTime s
  | interruptEnableSet enable => exact (writeCtrl_timeKept s enable true).keepsTime
  | interruptEnableClear enable => exact (writeCtrl_timeKept s enable false).keepsTime
  | registerWrite offset w v => exact execRegisterWrite_keepsTime s offset w v
  | pcieReset => exact execPcieReset_keepsTime s
  | baseTick _ => exact absurd trivial hc
  | powerOn _ => exact absurd trivial hc
  | timeLoRead => exact absurd trivial hc

/-! ### The tick, power-on and the read of TIME_LO -/

/-- The lane's sample, as its glitch filter takes it, stamps from the count: a candidate that is set takes it, and an
arrival that is formed carries it or the candidate that stood (R2, R4). -/
theorem sampleLane_stamps (now : Stamp) (raw : Bool) (x : Lane) :
    (∀ stamp, (sampleLane now raw x).candidate = some stamp → x.candidate = some stamp ∨ stamp = now) ∧
      ∀ a ∈ (sampleLane now raw x).formed, a ∈ x.formed ∨ a.stamp = now ∨ x.candidate = some a.stamp := by
  unfold sampleLane
  simp only
  split
  · exact ⟨by simp, fun a ha => .inl ha⟩
  · split
    · next hnone =>
      split
      · refine ⟨by simp [qualify], fun a ha => ?_⟩
        obtain ha | rfl := by simpa [qualify] using ha
        · exact .inl ha
        · exact .inr (.inl rfl)
      · exact ⟨fun stamp h => .inr (by simpa using h.symm), fun a ha => .inl ha⟩
    · next t hsome =>
      split
      · refine ⟨by simp [qualify], fun a ha => ?_⟩
        obtain ha | rfl := by simpa [qualify] using ha
        · exact .inl ha
        · exact .inr (.inr hsome)
      · exact ⟨fun stamp h => .inl h, fun a ha => .inl ha⟩

/-- The tick: the count moves by one, and every lane samples at the new count (R1, R13). -/
theorem exec_baseTick_time {levels : BitVec 16} {s t : State} (h : exec (.baseTick levels) s = .next t) :
    t.timebase = s.timebase + 1 ∧ t.timeHi = s.timeHi ∧
      ∀ l : LaneId, t.lane l = sampleLane t.timebase (levels.getLsbD l.val) (s.lane l) := by
  obtain rfl : _ = t := by simpa [exec, execBaseTick] using h
  exact ⟨rfl, rfl, fun l => by simp [State.lane]⟩

/-- Power-on: count and latch 0, and no candidate or arrival on any lane (R3, R13, R14, R182). -/
theorem exec_powerOn_time {levels : BitVec 16} {s t : State} (h : exec (.powerOn levels) s = .next t) :
    t.timebase = 0 ∧ t.timeHi = 0 ∧ ∀ l : LaneId, (t.lane l).candidate = none ∧ (t.lane l).formed = [] := by
  obtain rfl : _ = t := by simpa [exec, execPowerOn] using h
  exact ⟨rfl, rfl, fun l => by simp [State.lane]⟩

/-- Bits 0 to 31 of the count. -/
theorem stamp_low (x : Stamp) : x.extractLsb' 0 32 = x.setWidth 32 := (BitVec.setWidth_eq_extractLsb' (by decide)).symm

/-- Bits 32 to 47 of the count. -/
theorem stamp_high (x : Stamp) : x.extractLsb' 32 16 = (x >>> 32).setWidth 16 := by
  apply BitVec.eq_of_toNat_eq
  simp

/-- The read of TIME_LO gives the low word and latches the rest (R14). -/
theorem exec_timeLoRead (s : State) :
    exec .timeLoRead s =
      .next { s with readData := s.timebase.setWidth 32, timeHi := (s.timebase >>> 32).setWidth 16 } := by
  simp only [exec, execTimeLoRead, stamp_low, stamp_high]

/-- A write to an offset of no register that takes writes is ignored (R172, R175, R186). -/
theorem writeRegister_eq_self {offset : Nat} (v : BitVec 32) (s : State) (hctrl : offset ≠ 0x000)
    (htail : registerIndex 0x100 offset = none) (hhead : registerIndex 0x140 offset = none)
    (hring : offset ∉ [0x010, 0x014, 0x018, 0x01C, 0x020]) : writeRegister offset v s = s := by
  simp only [List.mem_cons, List.not_mem_nil, or_false, not_or] at hring
  obtain ⟨h10, h14, h18, h1C, h20⟩ := hring
  simp [writeRegister, writeControlRing, hctrl, htail, hhead, h10, h14, h18, h1C, h20]

/-- TIME_LO and TIME_HI ignore a write (R14). -/
theorem exec_registerWrite_time {offset : BitVec 12} (h : offset = 0x030 ∨ offset = 0x034) (v : BitVec 32) (s : State) :
    exec (.registerWrite offset .word v) s = .next s := by
  have hself : writeRegister offset.toNat v s = s := by
    obtain rfl | rfl := h <;> exact writeRegister_eq_self v s (by decide) (by decide) (by decide) (by decide)
  have htaken : accessTaken offset .word = true := by obtain rfl | rfl := h <;> rfl
  simp only [exec, execRegisterWrite, htaken, hself, if_true]

/-! ### The two statements -/

/-- Settles O6: the tick moves the count and stamps from it, power-on zeroes it, and every other command keeps time. -/
theorem timebaseMovesOnlyAtTicks : Obligations.TimebaseMovesOnlyAtTicks := by
  unfold Obligations.TimebaseMovesOnlyAtTicks
  intro c s t h
  by_cases hc : MovesTime c
  · cases c with
    | baseTick levels =>
      obtain ⟨htime, -, hlane⟩ := exec_baseTick_time h
      refine ⟨by simp [htime, BitVec.toNat_add], fun l => ?_⟩
      rw [hlane l]
      exact sampleLane_stamps _ _ _
    | powerOn levels =>
      obtain ⟨htime, -, hlane⟩ := exec_powerOn_time h
      exact ⟨by simp [htime], fun l => by simp [hlane l]⟩
    | timeLoRead =>
      obtain rfl := Host.Outcome.next.inj ((exec_timeLoRead s).symm.trans h)
      exact ⟨rfl, fun _ => ⟨fun _ h => .inl h, fun _ h => .inl h⟩⟩
    | _ => exact hc.elim
  · have hk := exec_keepsTime c s hc t h
    refine ⟨?_, fun l => ⟨fun stamp hs => .inl (hk.candidate l stamp hs), fun a ha => .inl (hk.formed l ha)⟩⟩
    cases c with
    | baseTick _ | powerOn _ => exact absurd trivial hc
    | _ => exact congrArg BitVec.toNat hk.timebase

/-- Settles O8: the read and the ignored writes by their own equations; every command but the read and power-on keeps
the latch. -/
theorem timeLoReadFillsTheLatch : Obligations.TimeLoReadFillsTheLatch := by
  unfold Obligations.TimeLoReadFillsTheLatch
  refine ⟨fun s => ⟨exec_timeLoRead s, stamp_low s.timebase, rfl⟩,
    fun v s => ⟨exec_registerWrite_time (.inl rfl) v s, exec_registerWrite_time (.inr rfl) v s⟩, fun c s t h => ?_⟩
  cases c with
  | timeLoRead =>
    obtain rfl := Host.Outcome.next.inj ((exec_timeLoRead s).symm.trans h)
    rfl
  | powerOn levels => exact (exec_powerOn_time h).2.1
  | baseTick levels => exact (exec_baseTick_time h).2.1
  | _ => exact (exec_keepsTime _ s id t h).timeHi

end Sys2Proof.Machine
end

section
/-! SUPPORT. The event list in the terms of Effects.lean (`raiseEvent_eq_raised`), what raising an event leaves of the
Fetch Unit, and an access finished in RUNNING (`finishing_of_running`). -/

namespace Sys2Proof.Machine

section
variable {s : State}

theorem running_eq_true_iff : s.running = true ↔ s.ctl = .running := by simp [State.running]

/-- A byte counter stays at 255 (00_scope.md, Saturation). -/
theorem satInc_byte (x : Byte) : satInc x = if x.toNat < 255 then x + 1 else x := by
  unfold satInc satAdd
  by_cases h : x.toNat < 255
  · have hlt : x.toNat + 1 < 2 ^ 8 := by omega
    simp only [h, hlt, if_true]
    rfl
  · have hge : ¬ x.toNat + 1 < 2 ^ 8 := by omega
    simp only [h, hge, if_false]
    exact BitVec.eq_of_toNat_eq (by have := x.isLt; simp only [BitVec.toNat_allOnes]; omega)

theorem raiseEvent_eq_raised (e : EventReport) (s : State) : raiseEvent e s = s.raised e := by
  simp only [raiseEvent, State.raised, satInc_byte, Config.eventListDepth]

@[simp] theorem raiseEvent_fetch (e : EventReport) (s : State) : (raiseEvent e s).fetch = s.fetch := by
  unfold raiseEvent; split <;> rfl

@[simp] theorem raiseEvent_jobRing (e : EventReport) (s : State) (r : RingId) :
    (raiseEvent e s).jobRing r = s.jobRing r := by
  unfold raiseEvent; split <;> rfl

/-- In RUNNING the block takes the completion of an outstanding access, and the decisions close the event (R162). -/
theorem finishing_of_running {a : Access} (act : State → State) (ha : a ∈ s.accesses) (hrun : s.ctl = .running) :
    finishing a act s = settle (act (finishAccess a s)) := by
  have hfin : (finishAccess a s).running = true := running_eq_true_iff.mpr hrun
  simp only [finishing, ha, hfin, if_true]

end

end Sys2Proof.Machine
end

section
/-! SUPPORT. The fetch decision (R110 to R114): eligibility, the choice of ring and slot, the move of the pointer and
the read's issue, each as an equation per case; then the statement on the rotation. -/

namespace Sys2Proof.Machine

/-! ### The choice of ring and slot -/

section
variable {s : State}

theorem ringEligible_iff (s : State) (r : RingId) :
    ringEligible s r = true ↔
      (s.jobRing r).state = .open ∧ (s.jobRing r).head ≠ (s.jobRing r).tail ∧
        (if r = 0 then 1 ≤ freeSlots s else (s.poster (s.jobRing r).bound).state = .open ∧ 5 ≤ freeSlots s) := by
  have hdepth : Config.ioFetchFreeSlots = 5 := rfl
  rw [← hdepth]
  by_cases h : r = 0
  · simp [ringEligible, JobRing.hasWork, h, and_assoc]
  · simp [ringEligible, JobRing.hasWork, h, and_assoc]

theorem lowestFree_eq_some_iff {j : SlotId} :
    lowestFree s = some j ↔ (s.slot j).state = .free ∧ ∀ i : SlotId, i < j → (s.slot i).state ≠ .free := by
  unfold lowestFree allSlots
  rw [← Fin.find?_eq_find?_finRange, Fin.find?_eq_some_iff]
  simp

/-- The search finds the ring `k` places after the pointer's successor when it is the first eligible one (R113). -/
theorem find?_ringsAfter {p : RingId} {f : RingId → Bool} {k : Nat} (hk : k < 7)
    (hf : f (Fin.ofNat 8 ((p.val + k) % 7 + 1)) = true)
    (hfirst : ∀ i < k, f (Fin.ofNat 8 ((p.val + i) % 7 + 1)) = false) :
    (ringsAfter p).find? f = some (Fin.ofNat 8 ((p.val + k) % 7 + 1)) := by
  rw [List.find?_eq_some_iff_getElem]
  refine ⟨hf, k, by simpa [ringsAfter] using hk, by simp [ringsAfter], fun i hi => ?_⟩
  simpa [ringsAfter] using hfirst i hi

theorem chooseRing_eq_none (h : ∀ r, ringEligible s r = false) : chooseRing s = none := by
  simp [chooseRing, h]

theorem chooseRing_eq_zero (h : ringEligible s 0 = true) : chooseRing s = some 0 := by simp [chooseRing, h]

theorem chooseRing_eq_pointer (h0 : ringEligible s 0 = false) (hp : ringEligible s s.pointer = true)
    (hc : 0 < (s.jobRing s.pointer).credit) : chooseRing s = some s.pointer := by
  simp [chooseRing, h0, hp, hc]

theorem chooseRing_eq_search (h0 : ringEligible s 0 = false)
    (hp : ¬ (ringEligible s s.pointer = true ∧ 0 < (s.jobRing s.pointer).credit)) :
    chooseRing s = (ringsAfter s.pointer).find? (ringEligible s) := by
  have hcond : (ringEligible s s.pointer && decide (0 < (s.jobRing s.pointer).credit)) = false := by
    simpa only [Bool.eq_false_iff, ne_eq, Bool.and_eq_true, decide_eq_true_eq] using hp
  simp [chooseRing, h0, hcond]

/-- Only an eligible ring is chosen (R112). -/
theorem ringEligible_of_chooseRing {r : RingId} (h : chooseRing s = some r) : ringEligible s r = true := by
  unfold chooseRing at h
  split at h
  next h0 => exact Option.some.inj h ▸ h0
  next =>
    split at h
    next hp => exact Option.some.inj h ▸ (Bool.and_eq_true_iff.mp hp).1
    next => exact List.find?_some h

end

/-! ### The move of the pointer and the issue of the read -/

/-- The read of ring `r`'s head in flight into slot `j`, which is FETCHING; the credits are as they were (R114). -/
def State.withRead (s : State) (r : RingId) (j : SlotId) : State :=
  { s with
    slots := s.slots.set j { state := .fetching, ring := r }
    fetch := some { ring := r, index := (s.jobRing r).head, slot := j }
    accesses := s.accesses ++ [.fetch] }

section
variable {s : State}

theorem issueFetch_zero (j : SlotId) : issueFetch 0 j s = s.withRead 0 j := rfl

theorem issueFetch_of_ne_zero {r : RingId} (hr : r ≠ 0) (j : SlotId) :
    issueFetch r j s = (s.withRead r j).modJobRing r fun q => { q with credit := q.credit - 1 } := by
  simp only [issueFetch, hr, if_false]
  rfl

theorem issueFetch_fetch_ring (r : RingId) (j : SlotId) :
    (issueFetch r j s).fetch.map FetchRecord.ring = some r := rfl

theorem movePointer_zero : movePointer 0 s = s := rfl

theorem movePointer_pointer (hc : 0 < (s.jobRing s.pointer).credit) : movePointer s.pointer s = s := by
  simp [movePointer, hc]

/-- A ring the search found takes the pointer and its weight as credit, and the ring left loses its credit (R113). -/
theorem movePointer_of_search {r : RingId} (hr : r ≠ 0) (hc : ¬ (r = s.pointer ∧ 0 < (s.jobRing r).credit)) :
    movePointer r s =
      { (s.modJobRing s.pointer fun q => { q with credit := 0 }).modJobRing r
          fun q => { q with credit := q.weight } with pointer := r } := by
  simp only [movePointer, hr, hc, if_false]

/-- An update that leaves the head of its own ring leaves the head of every ring. -/
theorem modJobRing_head (r r' : RingId) {f : JobRing → JobRing} (hf : ∀ q, (f q).head = q.head) :
    ((s.modJobRing r f).jobRing r').head = (s.jobRing r').head := by
  rw [State.jobRing_modJobRing]
  split
  next h => rw [hf, h]
  next => rfl

theorem movePointer_head (r r' : RingId) : ((movePointer r s).jobRing r').head = (s.jobRing r').head := by
  unfold movePointer
  split
  · rfl
  · split
    · rfl
    · have hleft := modJobRing_head (s := s) (f := fun q => { q with credit := 0 }) s.pointer r' fun _ => rfl
      exact (modJobRing_head (f := fun q => { q with credit := q.weight }) r r' fun _ => rfl).trans hleft

/-! ### The decision -/

theorem fetchDecision_eq_self (h : s.ctl ≠ .running ∨ s.fetch ≠ none ∨ chooseRing s = none) :
    fetchDecision s = s := by
  unfold fetchDecision
  split
  next hcond =>
    simp only [Bool.and_eq_true, running_eq_true_iff, Option.isNone_iff_eq_none] at hcond
    obtain hctl | hfetch | hnone := h
    · exact absurd hcond.1 hctl
    · exact absurd hcond.2 hfetch
    · simp [hnone]
  next => rfl

theorem fetchDecision_eq {r : RingId} {j : SlotId} (hrun : s.ctl = .running) (hfetch : s.fetch = none)
    (hring : chooseRing s = some r) (hslot : lowestFree s = some j) :
    fetchDecision s = issueFetch r j (movePointer r s) := by
  simp [fetchDecision, running_eq_true_iff.mpr hrun, hfetch, hring, hslot]

/-- A read that a decision leaves in flight is the one it found, or one of an eligible ring (R111, R112). -/
theorem fetchDecision_fetch_ring {r : RingId} (h : (fetchDecision s).fetch.map FetchRecord.ring = some r) :
    s.fetch.map FetchRecord.ring = some r ∨ ringEligible s r = true := by
  unfold fetchDecision at h
  split at h
  · split at h
    next hring _ =>
      rw [issueFetch_fetch_ring] at h
      exact .inr (ringEligible_of_chooseRing (hring.trans h))
    next => exact .inl h
  · exact .inl h

/-- The decision for a ring that the search found: its read is in flight, it holds the pointer and its weight less the
one fetch, and the ring left has no credit. -/
theorem issueFetch_movePointer_of_search {r : RingId} (j : SlotId) (hr : r ≠ 0)
    (hc : ¬ (r = s.pointer ∧ 0 < (s.jobRing r).credit)) :
    issueFetch r j (movePointer r s) =
      (({ s.withRead r j with pointer := r }).modJobRing s.pointer fun q => { q with credit := 0 }).modJobRing r
        fun q => { q with credit := q.weight - 1 } := by
  have hread : (movePointer r s).withRead r j =
      (({ s.withRead r j with pointer := r }).modJobRing s.pointer fun q => { q with credit := 0 }).modJobRing r
        fun q => { q with credit := q.weight } := by
    unfold State.withRead
    rw [movePointer_head, movePointer_of_search hr hc]
    rfl
  rw [issueFetch_of_ne_zero hr, hread, State.modJobRing_modJobRing]

end

/-- Settles O4: each clause by the choice of its ring and the equation of that choice's move and read. -/
theorem fetchDecisionFollowsTheRotation : Obligations.FetchDecisionFollowsTheRotation := by
  unfold Obligations.FetchDecisionFollowsTheRotation
  intro eligible after issued s
  have helig : ∀ r, ringEligible s r = true ↔ eligible s r := ringEligible_iff s
  have hnot : ∀ r, ringEligible s r = false ↔ ¬ eligible s r := fun r => by rw [← helig, Bool.not_eq_true]
  refine ⟨?_, fun hrun hfetch j hfree hlowest => ?_⟩
  · rintro (hctl | hfetch | hnone)
    · exact fetchDecision_eq_self (.inl hctl)
    · exact fetchDecision_eq_self (.inr (.inl hfetch))
    · exact fetchDecision_eq_self (.inr (.inr (chooseRing_eq_none fun r => (hnot r).mpr (hnone r))))
  · have hslot : lowestFree s = some j := lowestFree_eq_some_iff.mpr ⟨hfree, hlowest⟩
    have hdecision {r : RingId} (hring : chooseRing s = some r) := fetchDecision_eq hrun hfetch hring hslot
    refine ⟨fun h0 => ?ring0, fun h0 hp hc => ?credit, fun k hk h0 hp hr hfirst => ?search⟩
    case ring0 => exact hdecision (chooseRing_eq_zero ((helig 0).mpr h0))
    case credit =>
      have hne : s.pointer ≠ 0 := fun h => h0 (h ▸ hp)
      rw [hdecision (chooseRing_eq_pointer ((hnot 0).mpr h0) ((helig _).mpr hp) hc), movePointer_pointer hc,
        issueFetch_of_ne_zero hne]
      rfl
    case search =>
      have hne : after s.pointer k ≠ 0 := fun h => h0 (h ▸ hr)
      have hcredit : ¬ (after s.pointer k = s.pointer ∧ 0 < (s.jobRing (after s.pointer k)).credit) := by
        rintro ⟨h, hc⟩
        rw [h] at hr hc
        exact hp ⟨hr, hc⟩
      have hring : chooseRing s = some (after s.pointer k) := by
        rw [chooseRing_eq_search ((hnot 0).mpr h0) (by rwa [helig])]
        exact find?_ringsAfter hk ((helig _).mpr hr) fun i hi => (hnot _).mpr (hfirst i hi)
      exact (hdecision hring).trans (issueFetch_movePointer_of_search j hne hcredit)

end Sys2Proof.Machine
end

section
/-! SUPPORT. A fetch fault (R117): its effect as an equation, the grant decision's frame on the read in flight, and the
statement on the ring that faults. -/

namespace Sys2Proof.Machine

section
variable (s : State)

@[simp] theorem grantLane_fetch (l : LaneId) : (grantLane l s).fetch = s.fetch := by
  unfold grantLane; split <;> rfl

@[simp] theorem grantPoster_fetch (n : RingId) : (grantPoster n s).fetch = s.fetch := by
  unfold grantPoster
  split
  · rfl
  · split
    · rfl
    · split <;> rfl

@[simp] theorem grantGenerator_fetch : (grantGenerator s).fetch = s.fetch := by
  unfold grantGenerator; split <;> rfl

@[simp] theorem grantAt_fetch (k : Fin 25) : (grantAt k s).fetch = s.fetch := by
  unfold grantAt
  simp only
  split
  · simp
  · split <;> simp

@[simp] theorem portDecision_fetch : (portDecision s).fetch = s.fetch := by
  unfold portDecision
  split
  · split
    · rfl
    · simp
  · rfl

/-- With nothing in flight, the decisions that close an event fetch from an OPEN ring alone (R110). -/
theorem settle_fetch_ring {r : RingId} (hfetch : s.fetch = none) (hstate : (s.jobRing r).state ≠ .open) :
    (settle s).fetch.map FetchRecord.ring ≠ some r := by
  unfold settle
  rw [portDecision_fetch]
  intro h
  obtain hfound | helig := fetchDecision_fetch_ring h
  · simp [hfetch] at hfound
  · exact hstate ((ringEligible_iff s r).mp helig).1

end

theorem takeFetchFault_eq {f : FetchRecord} {s : State} (hfetch : s.fetch = some f)
    (hopen : (s.jobRing f.ring).state = .open) :
    takeFetchFault s =
      raiseEvent (.fetchFault f.ring f.index)
        (({ s with fetch := none }.modJobRing f.ring fun q => { q with state := .faulted }).modSlot f.slot
          fun x => { x with state := .free, reports := [] }) := by
  simp [takeFetchFault, hfetch, hopen]

/-- Settles O38: the fault is taken as its equation says, and the FAULTED ring is none that the closing decision fetches
from. -/
theorem aFetchFaultMakesTheRingFaulted : Obligations.AFetchFaultMakesTheRingFaulted := by
  unfold Obligations.AFetchFaultMakesTheRingFaulted
  rintro f s ⟨hrun, hfetch, hread, hopen⟩
  have hexec : exec .fetchReadFault s = .next (finishing .fetch takeFetchFault s) := rfl
  have htaken := takeFetchFault_eq (s := finishAccess .fetch s) hfetch hopen
  rw [← raiseEvent_eq_raised]
  refine ⟨?_, settle_fetch_ring _ (by simp) (by simp)⟩
  rw [hexec, finishing_of_running _ hread hrun, htaken]
  rfl

end Sys2Proof.Machine
end

section
/-! SUPPORT. The index writes (R107, R108, R128, R129): the twelve bits of an index, the span of heads taken as the
places from the present head on (`headAccepted_iff`), both writes as an equation per outcome, and their statement. -/

namespace Sys2Proof.Machine

/-! ### The values taken -/

/-- An index is the low twelve bits of the word (R107, R128). -/
theorem indexField_eq (v : BitVec 32) : indexField v = v.toNat % 4096 := by
  simp [indexField]

/-- On a ring of `size` places, `i` lies at most `n` places after `head` just when it is reached from there in at most
`n` steps. -/
theorem ring_distance_le_iff {size head i n : Nat} (hhead : head < size) (hi : i < size) :
    (i + size - head) % size ≤ n ↔ ∃ k ≤ n, i = (head + k) % size := by
  constructor
  · intro h
    refine ⟨_, h, ?_⟩
    have hsum : head + (i + size - head) = i + size := by omega
    rw [Nat.add_mod_mod, hsum, Nat.add_mod_right, Nat.mod_eq_of_lt hi]
  · rintro ⟨k, hk, rfl⟩
    have hsub : (head + k) % size + size - head = (head + k) % size + (size - head) := by omega
    have hsum : head + k + (size - head) = k + size := by omega
    rw [hsub, Nat.mod_add_mod, hsum, Nat.add_mod_right]
    exact (Nat.mod_le k size).trans hk

section
variable {p : Poster}

theorem Poster.overtaken_iff : p.overtaken = true ↔ p.inFlight ≠ none ∧ p.head = (p.tail + 1) % p.size := by
  simp [Poster.overtaken, Option.isSome_iff_ne_none]

theorem Poster.lt_size_of_headAccepted {i : Nat} (h : p.headAccepted i = true) : i < p.size :=
  of_decide_eq_true (Bool.and_eq_true_iff.mp h).1

/-- A head already on the place in flight can only be written again (R128). -/
theorem Poster.headAccepted_of_overtaken {i : Nat} (h : p.overtaken = true) :
    p.headAccepted i = true ↔ i < p.size ∧ i = p.head := by
  simp [Poster.headAccepted, h]

/-- Else the head moves over the unconsumed reports, and over the place in flight (R128). -/
theorem Poster.headAccepted_iff {i : Nat} (h : p.overtaken = false) (hhead : p.head < p.size) :
    p.headAccepted i = true ↔
      ∃ k ≤ (p.tail + p.size - p.head) % p.size + (if p.inFlight = none then 0 else 1),
        i = (p.head + k) % p.size := by
  have hflying : (if p.inFlight.isSome then 1 else 0) = if p.inFlight = none then 0 else 1 := by
    cases p.inFlight <;> rfl
  have hspan : p.headAccepted i = true ↔ i < p.size ∧
      (i + p.size - p.head) % p.size ≤
        (p.tail + p.size - p.head) % p.size + (if p.inFlight = none then 0 else 1) := by
    simp only [Poster.headAccepted, Poster.unconsumed, h, hflying, Bool.and_eq_true, decide_eq_true_eq,
      Bool.false_eq_true, if_false]
  constructor
  · intro hi
    obtain ⟨hlt, hle⟩ := hspan.mp hi
    exact (ring_distance_le_iff hhead hlt).mp hle
  · rintro ⟨k, hk, hi⟩
    have hlt : i < p.size := hi ▸ Nat.mod_lt _ (by omega)
    exact hspan.mpr ⟨hlt, (ring_distance_le_iff hhead hlt).mpr ⟨k, hk, hi⟩⟩

end

/-! ### The two writes -/

section
variable {s : State} (n : RingId) (v : BitVec 32)

theorem writeJobTail_outside (h : s.ctl ≠ .running) : writeJobTail n v s = s := by
  simp [writeJobTail, State.running, h]

theorem writeJobTail_running (h : s.ctl = .running) :
    writeJobTail n v s =
      if (s.jobRing n).state = .open ∧ v.toNat % 4096 < (s.jobRing n).size then
        settle (s.modJobRing n fun q => { q with tail := v.toNat % 4096 })
      else settle (s.raised (.indexError false n v)) := by
  simp only [writeJobTail, running_eq_true_iff.mpr h, indexField_eq, raiseEvent_eq_raised, if_true]

theorem writeRptHead_outside (h : s.ctl ≠ .running) : writeRptHead n v s = s := by
  simp [writeRptHead, State.running, h]

theorem writeRptHead_running (h : s.ctl = .running) :
    writeRptHead n v s =
      if (s.poster n).state = .open ∧ (s.poster n).headAccepted (v.toNat % 4096) = true then
        settle (s.modPoster n fun p => { p with head := v.toNat % 4096 })
      else settle (s.raised (.indexError true n v)) := by
  simp only [writeRptHead, running_eq_true_iff.mpr h, indexField_eq, raiseEvent_eq_raised, if_true]

end

/-- Settles O48: each clause names the branch of its write; for RPT_HEAD, whether the head stands on the place in flight
decides which form of `headAccepted` applies. -/
theorem indexWritesMoveTailAndHead : Obligations.IndexWritesMoveTailAndHead := by
  unfold Obligations.IndexWritesMoveTailAndHead
  intro n v s i q p flying onPlace unconsumed
  have htail : exec (.jobTailWrite n v) s = .next (writeJobTail n v s) := rfl
  have hhead : exec (.rptHeadWrite n v) s = .next (writeRptHead n v s) := rfl
  refine ⟨fun hctl => ?outside, fun hrun hopen hlt => ?tail, fun hrun hbad => ?noTail, fun hrun hsound => ?head⟩
  case outside => rw [htail, hhead, writeJobTail_outside n v hctl, writeRptHead_outside n v hctl]; exact ⟨rfl, rfl⟩
  case tail => rw [htail, writeJobTail_running n v hrun, if_pos ⟨hopen, hlt⟩]
  case noTail =>
    rw [htail, writeJobTail_running n v hrun, if_neg]
    rintro ⟨hopen, hlt⟩
    exact hbad.elim (absurd hopen) (absurd hlt ∘ Nat.not_lt.mpr)
  case head =>
    intro taken rejected
    have htaken (hopen : p.state = .open) (hok : p.headAccepted i = true) : taken := by
      simp only [taken, hhead]
      rw [writeRptHead_running n v hrun, if_pos ⟨hopen, hok⟩]
    have hrejected (hbad : p.state = .open → ¬ p.headAccepted i = true) : rejected := by
      simp only [rejected, hhead]
      rw [writeRptHead_running n v hrun, if_neg fun h => hbad h.1 h.2]
    have hlt (hopen : p.state = .open) : p.head < p.size := by
      obtain ⟨-, -, hlt, -⟩ := hsound.indices (by simp [hopen])
      exact hlt
    have hoff (h : ¬ onPlace) : p.overtaken = false := by
      rw [← Bool.not_eq_true, Poster.overtaken_iff]; exact h
    refine ⟨fun k hopen hplace hk hi => ?_, fun hopen hplace hi => ?_, fun hbad => ?_, fun hplace hfar => ?_,
      fun hplace hi => ?_⟩
    · exact htaken hopen ((Poster.headAccepted_iff (hoff hplace) (hlt hopen)).mpr ⟨k, hk, hi⟩)
    · exact htaken hopen ((Poster.headAccepted_of_overtaken (Poster.overtaken_iff.mpr hplace)).mpr
        ⟨hi ▸ hlt hopen, hi⟩)
    · refine hrejected fun hopen hok => ?_
      exact hbad.elim (absurd hopen) (absurd (Poster.lt_size_of_headAccepted hok) ∘ Nat.not_lt.mpr)
    · refine hrejected fun hopen hok => ?_
      obtain ⟨k, hk, hi⟩ := (Poster.headAccepted_iff (hoff hplace) (hlt hopen)).mp hok
      exact hfar k hk hi
    · refine hrejected fun _ hok => hi ?_
      exact ((Poster.headAccepted_of_overtaken (Poster.overtaken_iff.mpr hplace)).mp hok).2

end Sys2Proof.Machine
end

section
/-! SUPPORT. Start-up (R173, R177, R178): the commands that write CTRL as one function, the closing decisions of a part
with no entry to fetch and nothing to write, and the start from the reset values that OFF holds; then its statement. -/

namespace Sys2Proof.Machine

/-! ### Writes to CTRL -/

section
variable {s : State}

/-- Each command that is a write to CTRL writes its two fields there as one event (R173). -/
theorem exec_of_ctrlWrite {c : Instr} {enable ie : Bool} (h : ctrlWrite c = some (enable, ie)) (s : State) :
    exec c s = .next (writeCtrl enable ie s) := by
  cases c with
  | startUp | stop | interruptEnableSet | interruptEnableClear => cases h; rfl
  | registerWrite offset w v =>
    rw [ctrlWrite] at h
    split at h
    next hreg =>
      obtain ⟨rfl, rfl⟩ := hreg
      cases h
      rfl
    next => cases h
  | _ => cases h

theorem configValid_iff : configValid s = true ↔ s.ValidConfig := by
  simp only [configValid, sizeValid, aligned64, aligned32, Bool.and_eq_true, decide_eq_true_eq, beq_iff_eq, and_assoc]
  rfl

theorem writeCtrl_start (hoff : s.ctl = .off) (hvalid : s.ValidConfig) (ie : Bool) :
    writeCtrl true ie s = settle (writeInterruptEnable ie (takeStartUp s)) := by
  simp [writeCtrl, hoff, configValid_iff.mpr hvalid]

theorem writeCtrl_start_refused (hoff : s.ctl = .off) (hbad : ¬ s.ValidConfig) (ie : Bool) :
    writeCtrl true ie s = { s with interruptEnable := ie, configError := true } := by
  simp [writeCtrl, hoff, mt configValid_iff.mp hbad]

/-- CTRL's bit 0 reads whether the part is enabled (R173). -/
theorem readWindow_ctrl_enable : (readWindow 0x000 .word s).getLsbD 0 = enableReads s := by
  have hread : readWindow 0x000 .word s = ctrlWord s := rfl
  rw [hread, ctrlWord]
  cases enableReads s <;> cases s.interruptEnable <;> rfl

/-- With no message pending, the interrupt enable changes alone (R144). -/
theorem writeInterruptEnable_of_no_pending (h : ∀ n, (s.poster n).pendingMessage = false) (ie : Bool) :
    writeInterruptEnable ie s = { s with interruptEnable := ie } := by
  have hsend : sendPendingMessages { s with interruptEnable := ie } = { s with interruptEnable := ie } :=
    List.foldl_fixed' (fun n => if_neg (ne_true_of_eq_false (h n))) _
  simp only [writeInterruptEnable, hsend, ite_self]

/-! ### The closing decisions with nothing to do -/

/-- With the indices of every ring equal there is no entry to fetch (R109, R110). -/
theorem fetchDecision_of_no_work (h : ∀ r, (s.jobRing r).head = (s.jobRing r).tail) : fetchDecision s = s :=
  fetchDecision_eq_self (.inr (.inr (chooseRing_eq_none fun r =>
    Bool.eq_false_iff.mpr fun helig => ((ringEligible_iff s r).mp helig).2.1 (h r))))

theorem portDecision_of_no_request (h : ∀ k, requestStands s k = false) : portDecision s = s := by
  have hnone : nextGrant s = none := List.find?_eq_none.mpr fun k _ => ne_true_of_eq_false (h k)
  simp only [portDecision, hnone, ite_self]

/-- No request stands with nothing staged, no report queued, no event listed and no message to send (R76, R134,
R145). -/
theorem requestStands_eq_false (hfifo : ∀ l, (s.lane l).fifo = []) (hqueue : ∀ n, (s.poster n).queue = [])
    (hevents : s.events = []) (hmessages : s.messages = []) (k : Fin 25) : requestStands s k = false := by
  unfold requestStands
  split
  · simp [laneRequests, hfifo]
  · split
    · simp [posterRequests, hqueue, hevents]
    · simp [generatorRequests, hmessages]

end

/-! ### The start -/

/-- Job ring 0 as a start opens it (R106). -/
def State.controlJobRing (s : State) : JobRing :=
  { state := .open, base := s.cringJobBase, size := s.cringJobSize.toNat, bound := 0 }

/-- Report ring 0 as a start opens it (R126). -/
def State.controlPoster (s : State) : Poster :=
  { state := .open
    base := s.cringRptBase
    size := s.cringRptSize.toNat
    vector := 0
    coalescingCount := 1
    coalescingTime := 0 }

/-- The part started: its two control rings open, and everything else as OFF held it (R177). -/
def State.started (s : State) (ie : Bool) : State :=
  { s with
    ctl := .running
    interruptEnable := ie
    configError := false
    fatalCause := .none
    jobRings := s.jobRings.set 0 s.controlJobRing
    posters := s.posters.set 0 s.controlPoster }

section
variable {s : State}

theorem State.started_jobRing (ie : Bool) (r : RingId) :
    (s.started ie).jobRing r = if r = 0 then s.controlJobRing else s.jobRing r :=
  s.jobRing_setJobRing 0 r s.controlJobRing

theorem State.started_poster (ie : Bool) (n : RingId) :
    (s.started ie).poster n = if n = 0 then s.controlPoster else s.poster n :=
  s.poster_setPoster 0 n s.controlPoster

theorem State.Dropped.jobRing (h : s.Dropped) (r : RingId) : s.jobRing r = {} := by
  simp [State.jobRing, h.jobRings, State.reset]

theorem State.Dropped.poster (h : s.Dropped) (n : RingId) : s.poster n = {} := by
  simp [State.poster, h.posters, State.reset]

theorem State.Dropped.fifo (h : s.Dropped) (l : LaneId) : (s.lane l).fifo = [] :=
  congrArg Lane.fifo (h.lanes l)

theorem clearCredits_eq_self (h : ∀ r, (s.jobRing r).credit = 0) : clearCredits s = s := by
  refine List.foldl_fixed' (fun r => ?_) _
  have hsame : { s.jobRing r with credit := 0 } = s.jobRing r := by rw [← h r]
  simp only [State.modJobRing, hsame, State.setJobRing_jobRing_self]

/-- From the reset values, a start opens the two control rings and changes nothing else (R106, R126, R177). -/
theorem takeStartUp_of_dropped (h : s.Dropped) : takeStartUp s = s.started s.interruptEnable := by
  have hring : startedJobRing s = s.controlJobRing := by rw [startedJobRing, h.jobRing]; rfl
  have hposter : startedPoster s = s.controlPoster := by rw [startedPoster, h.poster]; rfl
  have hcredits : clearCredits ((s.setJobRing 0 s.controlJobRing).setPoster 0 s.controlPoster) =
      (s.setJobRing 0 s.controlJobRing).setPoster 0 s.controlPoster := by
    refine clearCredits_eq_self fun r => ?_
    rw [State.setPoster_jobRing, State.jobRing_setJobRing, h.jobRing]
    split <;> rfl
  rw [takeStartUp, hring, hposter, hcredits, ← h.pointer]
  rfl

theorem State.Dropped.started_pendingMessage (h : s.Dropped) (ie : Bool) (n : RingId) :
    ((s.started ie).poster n).pendingMessage = false := by
  rw [State.started_poster, h.poster]
  split <;> rfl

/-- A part just started has no entry to fetch and nothing to write. -/
theorem State.Dropped.settle_started (h : s.Dropped) (ie : Bool) : settle (s.started ie) = s.started ie := by
  have hwork (r : RingId) : ((s.started ie).jobRing r).head = ((s.started ie).jobRing r).tail := by
    rw [State.started_jobRing, h.jobRing]
    split <;> rfl
  have hqueue (n : RingId) : ((s.started ie).poster n).queue = [] := by
    rw [State.started_poster, h.poster]
    split <;> rfl
  have hrequest : ∀ k, requestStands (s.started ie) k = false :=
    requestStands_eq_false h.fifo hqueue h.events h.messages
  rw [settle, fetchDecision_of_no_work hwork, portDecision_of_no_request hrequest]

end

/-- Settles O49: in OFF every block holds its reset values, so the start is `State.started` and the closing decisions
find nothing; the readings of enable follow from the controller's state. -/
theorem startUpOpensTheControlRings : Obligations.StartUpOpensTheControlRings := by
  unfold Obligations.StartUpOpensTheControlRings
  intro c ie s hc hoff started failed
  rw [exec_of_ctrlWrite hc]
  refine ⟨fun hsound hvalid => ⟨?_, readWindow_ctrl_enable⟩, fun hbad => ⟨?_, ?_⟩⟩
  · have hdropped : s.Dropped := hsound.dropped (.inl hoff)
    have hie : writeInterruptEnable ie (s.started s.interruptEnable) = s.started ie :=
      writeInterruptEnable_of_no_pending (hdropped.started_pendingMessage _) ie
    rw [writeCtrl_start hoff hvalid, takeStartUp_of_dropped hdropped, hie, hdropped.settle_started]
    rfl
  · rw [writeCtrl_start_refused hoff hbad]
  · rw [readWindow_ctrl_enable]
    simp [failed, enableReads, hoff]

end Sys2Proof.Machine
end

section
/-! SUPPORT. What a command can do to the controller, by the state it meets it in (sections 9.4 and 10.6 to 10.8):
outside RUNNING the blocks stay and only registers, filters and finished accesses move (`exec_outside`), in RUNNING the
controller stays but for a fault of report ring 0, a stop and power-on (`exec_running`); then the statements on the
controller's states, on what a stop leaves, and on the queue of commands. -/

namespace Sys2Proof.Machine

-- One proof at a time: every thread reserves memory of its own, and the check bounds the whole.
set_option Elab.async false

/-! ### Outside RUNNING -/

/-- The blocks of `t` hold what those of `s` hold: only the interrupt enable, the timebase with its latch, the samples,
filters and arrivals, the accesses and the port as they finish differ. A filter of width 0 keeps no candidate, and in
STOPPING an access is left. -/
structure State.Frozen (s t : State) : Prop where
  blocks : t = { s with
    interruptEnable := t.interruptEnable
    accesses := t.accesses
    readData := t.readData
    timebase := t.timebase
    timeHi := t.timeHi
    line := t.line
    lanes := t.lanes
    port := { s.port with busy := t.port.busy } }
  lanes : ∀ l : LaneId, t.lane l =
    { s.lane l with
      filtered := (t.lane l).filtered, candidate := (t.lane l).candidate, formed := (t.lane l).formed }
  candidate : ∀ l : LaneId, (s.lane l).filterWidth = 0 → (s.lane l).candidate = none → (t.lane l).candidate = none
  accesses : ∀ a ∈ t.accesses, a ∈ s.accesses
  stopping : s.ctl = .stopping → s.accesses ≠ [] → t.accesses ≠ []

theorem State.Frozen.refl (s : State) : s.Frozen s :=
  ⟨rfl, fun _ => rfl, fun _ _ h => h, fun _ h => h, fun _ h => h⟩

/-- A change of registers, accesses and the port alone freezes the blocks. -/
theorem State.Frozen.of_lanes {s t : State}
    (blocks : t = { s with
      interruptEnable := t.interruptEnable, accesses := t.accesses, readData := t.readData, timebase := t.timebase,
      timeHi := t.timeHi, line := t.line, lanes := t.lanes, port := { s.port with busy := t.port.busy } })
    (lanes : t.lanes = s.lanes) (accesses : ∀ a ∈ t.accesses, a ∈ s.accesses)
    (stopping : s.ctl = .stopping → s.accesses ≠ [] → t.accesses ≠ []) : s.Frozen t := by
  have hlane : ∀ l, t.lane l = s.lane l := fun l => by simp only [State.lane, lanes]
  exact ⟨blocks, fun l => by rw [hlane l], fun l _ h => by rw [hlane l, h], accesses, stopping⟩

theorem State.Frozen.ctl {s t : State} (h : s.Frozen t) : t.ctl = s.ctl := by rw [h.blocks]

theorem State.Frozen.pending {s t : State} (h : s.Frozen t) : t.pending = s.pending := by rw [h.blocks]

/-- The commands that begin a stop: an enable of 0, and a PCIe reset (R179, R182). -/
def StopCommand (c : Instr) : Prop := c = .pcieReset ∨ ∃ ie, ctrlWrite c = some (false, ie)

/-- The commands in whose event an access can be finished (R141, R162, R180). -/
def FinishCommand (c : Instr) : Prop := (∃ a, finishedAccess c = some a) ∨ c = .writeAcceptance ∨ c = .stopEnd

/-- What a command that meets the controller outside RUNNING can leave: the blocks as they are, a configuration written
in OFF, a start, the first event of a stop, or its end. Power-on stands apart. -/
inductive OutsideOutcome (c : Instr) (s t : State) : Prop where
  | frozen (h : s.Frozen t)
  | configured (off : s.ctl = .off)
      (blocks : t = { s with
        interruptEnable := t.interruptEnable, configError := t.configError, cringJobBase := t.cringJobBase,
        cringRptBase := t.cringRptBase, cringJobSize := t.cringJobSize, cringRptSize := t.cringRptSize })
  | started (off : s.ctl = .off) (valid : s.ValidConfig) (write : ∃ ie, ctrlWrite c = some (true, ie))
      (ctl : t.ctl = .running) (pending : t.pending = s.pending)
  | stopped (fatal : s.ctl = .fatal) (command : StopCommand c)
      (begins : ∃ ie, t = beginStop { s with interruptEnable := ie })
  | ended (stopping : s.ctl = .stopping) (command : FinishCommand c) (ends : t = endStop { s with accesses := [] })

section
variable {s : State}

theorem not_running (h : s.ctl ≠ .running) : s.running = false := by
  rw [Bool.eq_false_iff]
  exact mt running_eq_true_iff.mp h

/-- A change of the interrupt enable keeps controller and queue: sending the pending messages does (R144). -/
theorem writeInterruptEnable_kept (ie : Bool) (s : State) :
    (writeInterruptEnable ie s).ctl = s.ctl ∧ (writeInterruptEnable ie s).pending = s.pending := by
  unfold writeInterruptEnable
  simp only
  split
  · exact ⟨(sendPendingMessages_sameOutside _).ctl, (sendPendingMessages_sameOutside _).pending⟩
  · exact ⟨rfl, rfl⟩

theorem clearCredits_sameOutside (s : State) : s.SameOutside (clearCredits s) :=
  .foldl _ (fun s r => modJobRing_sameOutside s r _) _ s

/-- A start leads to RUNNING and keeps the queue (R177). -/
theorem takeStartUp_kept (s : State) : (takeStartUp s).ctl = .running ∧ (takeStartUp s).pending = s.pending := by
  have hqueue := (clearCredits_sameOutside ((s.setJobRing 0 (startedJobRing s)).setPoster 0 (startedPoster s))).pending
  unfold takeStartUp
  generalize clearCredits _ = u at hqueue ⊢
  exact ⟨rfl, hqueue⟩

theorem contextLane_of_not_running (h : s.ctl ≠ .running) (l : LaneId) : contextLane s l = none := by
  simp [contextLane, not_running h]

/-- Outside RUNNING an arrival is taken from those formed, and nothing else happens (R6, R168). -/
theorem execEdgeArrival_outside (h : s.ctl ≠ .running) (l : LaneId) (polarity : Polarity) (stamp : Stamp) :
    ∃ rest, execEdgeArrival l polarity stamp s = .next (s.modLane l fun x => { x with formed := rest }) := by
  unfold execEdgeArrival
  split
  · next hformed =>
    refine ⟨[], ?_⟩
    have hsame : { s.lane l with formed := [] } = s.lane l := by rw [← hformed]
    rw [State.modLane, hsame, State.setLane_lane_self]
  · next a rest hformed =>
    split
    · refine ⟨rest, ?_⟩
      have hnone := contextLane_of_not_running (s := s.modLane l fun x => { x with formed := rest }) h l
      rw [takeArrival, hnone, settle_eq_self (by exact h)]
    · refine ⟨a :: rest, ?_⟩
      have hsame : { s.lane l with formed := a :: rest } = s.lane l := by rw [← hformed]
      rw [State.modLane, hsame, State.setLane_lane_self]

/-- An update of one lane's filter freezes the blocks when it sets no candidate. -/
theorem modLane_frozen (l : LaneId) (f : Lane → Lane)
    (hf : f (s.lane l) = { s.lane l with
      filtered := (f (s.lane l)).filtered, candidate := (f (s.lane l)).candidate, formed := (f (s.lane l)).formed })
    (hc : (s.lane l).candidate = none → (f (s.lane l)).candidate = none) : s.Frozen (s.modLane l f) := by
  refine ⟨rfl, fun m => ?_, fun m _ h => ?_, fun _ h => h, fun _ h => h⟩
  · by_cases hm : m = l
    · subst hm; simpa using hf
    · simp [State.lane_modLane_ne _ f hm]
  · by_cases hm : m = l
    · subst hm; simpa using hc h
    · simpa [State.lane_modLane_ne _ f hm] using h

/-- A tick freezes the blocks: each filter takes its sample alone (R2, R13). -/
theorem baseTick_frozen (levels : BitVec 16) : ∃ t, execBaseTick levels s = .next t ∧ s.Frozen t := by
  refine ⟨_, rfl, rfl, fun l => ?_, fun l hw hc => ?_, fun _ h => h, fun _ h => h⟩
  · simp only [State.lane, Fin.getElem_fin, Vector.getElem_ofFn]
    generalize s.lanes[l.val] = x
    unfold sampleLane qualify
    simp only
    split
    · rfl
    · split
      · split <;> rfl
      · split <;> rfl
  · simp only [State.lane, Fin.getElem_fin, Vector.getElem_ofFn] at hw hc ⊢
    generalize s.lanes[l.val] = x at hw hc
    unfold sampleLane qualify
    simp only [hw, hc]
    split <;> rfl

/-- Outside RUNNING accesses finish alone, and a stop ends with the last one (R162, R180). -/
theorem endStopIfDone_outside {c : Instr} (hc : FinishCommand c) {left : List Access} (hleft : ∀ a ∈ left, a ∈ s.accesses)
    (port : Option PortWrite) :
    OutsideOutcome c s (endStopIfDone { s with accesses := left, port := { s.port with busy := port } }) := by
  unfold endStopIfDone
  simp only
  split
  next hdone =>
    obtain ⟨hstop, rfl⟩ := hdone
    exact .ended hstop hc rfl
  next hmore => exact .frozen (.of_lanes rfl rfl hleft fun hstop _ hlast => hmore ⟨hstop, hlast⟩)

theorem finishing_outside (h : s.ctl ≠ .running) {c : Instr} {a : Access} (hc : finishedAccess c = some a)
    (act : State → State) : OutsideOutcome c s (finishing a act s) := by
  unfold finishing
  split
  · have hrun : (finishAccess a s).running = false := not_running h
    simp only [hrun, Bool.false_eq_true, if_false]
    exact endStopIfDone_outside (.inl ⟨a, hc⟩) (fun _ h => List.mem_of_mem_erase h) s.port.busy
  · exact .frozen (.refl s)

theorem execWriteAcceptance_outside (h : s.ctl ≠ .running) :
    ∃ t, execWriteAcceptance s = .next t ∧ OutsideOutcome .writeAcceptance s t := by
  unfold execWriteAcceptance
  split
  · exact ⟨s, rfl, .frozen (.refl s)⟩
  · next w _ =>
    have hrun : (finishMessage w { s with port := { s.port with busy := none } }).running = false := by
      apply not_running
      cases w <;> exact h
    simp only [hrun, Bool.false_eq_true, if_false]
    refine ⟨_, rfl, ?_⟩
    have hfin : FinishCommand .writeAcceptance := .inr (.inl rfl)
    cases w with
    | message => exact endStopIfDone_outside hfin (fun _ h => List.mem_of_mem_erase h) none
    | record | report => exact endStopIfDone_outside hfin (fun _ h => h) none

theorem writeCtrl_outside (h : s.ctl ≠ .running) {c : Instr} {enable ie : Bool}
    (hc : ctrlWrite c = some (enable, ie)) : OutsideOutcome c s (writeCtrl enable ie s) := by
  have hfield : s.Frozen { s with interruptEnable := ie } := .of_lanes rfl rfl (fun _ h => h) fun _ h => h
  unfold writeCtrl
  split
  · exact .frozen (.refl s)
  · next hoff =>
    split
    · next henable =>
      subst henable
      split
      · next hvalid =>
        have hstart := takeStartUp_kept s
        obtain ⟨hrunning, hpending⟩ := writeInterruptEnable_kept ie (takeStartUp s)
        refine .started hoff (configValid_iff.mp hvalid) ⟨ie, hc⟩ ?_ ?_
        · rw [(settle_sameController _).ctl, hrunning, hstart.1]
        · rw [(settle_sameController _).pending, hpending, hstart.2]
      · exact .configured hoff rfl
    · exact .frozen hfield
  · next hrun => exact absurd hrun h
  · next hfatal =>
    split
    · exact .frozen hfield
    · next hzero =>
      rw [Bool.not_eq_true] at hzero
      subst hzero
      exact .stopped hfatal (.inr ⟨ie, hc⟩) ⟨ie, rfl⟩

theorem writeControlRing_outside (c : Instr) (offset : Nat) (v : BitVec 32) :
    OutsideOutcome c s (writeControlRing offset v s) := by
  unfold writeControlRing
  split
  · next hoff => (repeat' split) <;> exact .configured hoff rfl
  · exact .frozen (.refl s)

/-- A register write is a write to CTRL or to the control ring registers: the index writes need RUNNING (R107, R128). -/
theorem execRegisterWrite_outside (h : s.ctl ≠ .running) (offset : BitVec 12) (w : AccessWidth) (v : BitVec 32) :
    ∃ t, execRegisterWrite offset w v s = .next t ∧ OutsideOutcome (.registerWrite offset w v) s t := by
  unfold execRegisterWrite
  split
  · next htaken =>
    refine ⟨_, rfl, ?_⟩
    simp only [accessTaken, Bool.and_eq_true, beq_iff_eq] at htaken
    unfold writeRegister
    split
    · next hzero =>
      have hoffset : offset = 0 := BitVec.eq_of_toNat_eq hzero
      exact writeCtrl_outside h (by simp [ctrlWrite, hoffset, htaken.1])
    · split
      · rw [writeJobTail_outside _ _ h]; exact .frozen (.refl s)
      · split
        · rw [writeRptHead_outside _ _ h]; exact .frozen (.refl s)
        · exact writeControlRing_outside _ _ _
  · exact ⟨s, rfl, .frozen (.refl s)⟩

theorem withLoan_outside (h : s.ctl ≠ .running) (k : LoanMsgKind) (src dst : LaneId) (act : Loan → State → State) :
    withLoan k src dst act s = .next s := by simp [withLoan, not_running h]

/-- Outside RUNNING a command but power-on completes with one of the outcomes, and an ill-formed one is refused. -/
theorem exec_outside (h : s.ctl ≠ .running) {c : Instr} (hpower : ∀ levels, c ≠ .powerOn levels) :
    (∃ t, exec c s = .next t ∧ OutsideOutcome c s t) ∨ (c.wf = false ∧ ∃ r, exec c s = .refused r) := by
  have hself (hexec : exec c s = .next s) : ∃ t, exec c s = .next t ∧ OutsideOutcome c s t :=
    ⟨s, hexec, .frozen (.refl s)⟩
  have hctrl {enable ie : Bool} (hc : ctrlWrite c = some (enable, ie)) :
      ∃ t, exec c s = .next t ∧ OutsideOutcome c s t :=
    ⟨_, exec_of_ctrlWrite hc s, writeCtrl_outside h hc⟩
  have hfinish {a : Access} {act : State → State} (hc : finishedAccess c = some a)
      (hexec : exec c s = .next (finishing a act s)) : ∃ t, exec c s = .next t ∧ OutsideOutcome c s t :=
    ⟨_, hexec, finishing_outside h hc act⟩
  have hrun := not_running h
  cases c with
  | edgeArrival l polarity stamp =>
    obtain ⟨rest, hexec⟩ := execEdgeArrival_outside h l polarity stamp
    exact .inl ⟨_, hexec, .frozen (modLane_frozen l _ rfl fun hc => hc)⟩
  | alignedArrivalDue l =>
    refine .inl (hself (if_neg ?_))
    unfold alignedHeadDue
    (repeat' split) <;> simp [hrun]
  | windowEndExpiry l | overflowBoundExpiry l =>
    refine .inl (hself (if_neg ?_))
    unfold expiryDue
    split <;> simp [hrun]
  | startLimitExpiry j | coalescingTimerExpiry n =>
    refine .inl (hself (if_neg ?_))
    unfold timerDue
    split <;> simp [hrun]
  | width | cycles | span | tally | quiet | addBuffer | openReportRing | closeReportRing | openJobRing | closeJobRing
  | setLane | claimLane | holdLane | releaseLane | cancelJob | peekJob | fetchReadFault | recordWriteCompletion
  | recordWriteFault | reportWriteCompletion | ring0ReportWriteFault => exact .inl (hfinish rfl rfl)
  | reportWriteFault n =>
    by_cases hn : n = 0
    · subst hn; exact .inl (hfinish rfl rfl)
    · exact .inl (hfinish rfl (if_neg hn))
  | undefinedKindEntry code tag =>
    by_cases hcode : (kindOfCode code).isSome
    · refine .inr ⟨?_, _, if_pos hcode⟩
      simpa [Instr.wf] using hcode
    · exact .inl (hfinish (if_neg hcode) (if_neg hcode))
  | loanRequest | grant | defer | withdraw | loanReturn | placeOpenNotice =>
    exact .inl (hself (withLoan_outside h _ _ _ _))
  | writeAcceptance => exact .inl (execWriteAcceptance_outside h)
  | jobTailWrite r v => exact .inl (hself (congrArg _ (writeJobTail_outside r v h)))
  | rptHeadWrite n v => exact .inl (hself (congrArg _ (writeRptHead_outside n v h)))
  | timeLoRead => exact .inl ⟨_, rfl, .frozen (.of_lanes rfl rfl (fun _ h => h) fun _ h => h)⟩
  | startUp | stop | interruptEnableSet | interruptEnableClear => exact .inl (hctrl rfl)
  | stopEnd =>
    by_cases hstop : s.ctl = .stopping ∧ s.outstandingCount ≤ 1
    · exact .inl ⟨_, if_pos hstop, .ended hstop.1 (.inr (.inr rfl)) rfl⟩
    · exact .inl (hself (if_neg hstop))
  | registerWrite offset w v => exact .inl (execRegisterWrite_outside h offset w v)
  | powerOn levels => exact absurd rfl (hpower levels)
  | pcieReset =>
    by_cases hstate : s.ctl = .running ∨ s.ctl = .fatal
    · exact .inl ⟨_, if_pos hstate, .stopped (hstate.resolve_left h) (.inl rfl) ⟨s.interruptEnable, rfl⟩⟩
    · exact .inl (hself (if_neg hstate))
  | baseTick levels =>
    obtain ⟨t, hexec, hfrozen⟩ := baseTick_frozen (s := s) levels
    exact .inl ⟨t, hexec, .frozen hfrozen⟩

end

end Sys2Proof.Machine
end

section
/-! SUPPORT. What a command can do to the controller in RUNNING (`exec_running`), and the statements that rest on the
controller alone: its states and the freeze in FATAL, what a stop leaves, and the queue of commands. -/

namespace Sys2Proof.Machine

-- One proof at a time: every thread reserves memory of its own, and the check bounds the whole.
set_option Elab.async false

/-! ### In RUNNING -/

/-- What a command that meets the controller in RUNNING can leave: RUNNING, FATAL at a fault of report ring 0, or a stop
begun. Power-on stands apart. -/
inductive RunningOutcome (c : Instr) (s t : State) : Prop where
  | goesOn (ctl : t.ctl = .running) (pending : t.pending = s.pending)
  | fatal (access : Access.report 0 ∈ s.accesses) (command : c = .ring0ReportWriteFault ∨ c = .reportWriteFault 0)
      (ctl : t.ctl = .fatal) (pending : t.pending = s.pending)
  | stopped (command : StopCommand c) (begins : ∃ ie, t = beginStop { s with interruptEnable := ie })

section
variable {s : State}

theorem State.SameController.goesOn {c : Instr} {t : State} (h : s.SameController t) (hrun : s.ctl = .running) :
    RunningOutcome c s t := .goesOn (h.ctl.trans hrun) h.pending

/-- A block's action, closed by the decisions, keeps the controller. -/
theorem State.SameController.settle {t : State} (h : s.SameController t) : s.SameController (settle t) :=
  h.trans (settle_sameController t)

/-- A finished access keeps the controller when its block's action does. -/
theorem finishing_sameController (hrun : s.ctl = .running) (a : Access) (act : State → State)
    (h : ∀ s : State, s.SameController (act s)) : s.SameController (finishing a act s) := by
  by_cases ha : a ∈ s.accesses
  · rw [finishing_of_running act ha hrun]
    refine State.SameController.settle (State.SameController.trans (t := finishAccess a s) ?_ (h _))
    constructor <;> rfl
  · rw [finishing, if_neg ha]
    exact .refl s

/-- A fetched entry keeps the controller when its dispatch leaves the outside. -/
theorem takeEntry_sameController (e : Entry) (act : RingId → SlotId → State → State)
    (h : ∀ r j (s : State), s.SameOutside (act r j s)) (s : State) : s.SameController (takeEntry e act s) :=
  (takeEntry_sameOutside s e act h).toSameController

/-- The fault of report ring 0's write: FATAL when a write is in flight (R167). -/
theorem ring0Fault_running (hrun : s.ctl = .running) {c : Instr}
    (hc : c = .ring0ReportWriteFault ∨ c = .reportWriteFault 0) :
    RunningOutcome c s (finishing (.report 0) takeRing0Fault s) := by
  by_cases ha : Access.report 0 ∈ s.accesses
  · rw [finishing_of_running _ ha hrun]
    have hkept (u : State) : (settle u).ctl = u.ctl ∧ (settle u).pending = u.pending :=
      ⟨(settle_sameController u).ctl, (settle_sameController u).pending⟩
    unfold takeRing0Fault
    split
    · exact .goesOn ((hkept _).1.trans hrun) (hkept _).2
    · exact .fatal ha hc (hkept _).1 (hkept _).2
    · exact .fatal ha hc (hkept _).1 (hkept _).2
  · rw [finishing, if_neg ha]
    exact .goesOn hrun rfl

theorem execEdgeArrival_sameController (l : LaneId) (polarity : Polarity) (stamp : Stamp) :
    ∃ t, execEdgeArrival l polarity stamp s = .next t ∧ s.SameController t := by
  unfold execEdgeArrival
  split
  · exact ⟨s, rfl, .refl s⟩
  · split
    · exact ⟨_, rfl,
        ((modLane_sameOutside s l _).trans (takeArrival_sameOutside _ l _)).toSameController.settle⟩
    · exact ⟨s, rfl, .refl s⟩

/-- An event that is taken under a condition keeps the controller when its block's action does. -/
theorem next_ite_sameController {t : State} (p : Prop) [Decidable p] (h : s.SameController t) :
    ∃ u, (if p then .next (Machine.settle t) else .next s : Host.Outcome State Fault Refusal) = .next u ∧
      s.SameController u := by
  split
  · exact ⟨_, rfl, h.settle⟩
  · exact ⟨s, rfl, .refl s⟩

theorem execWriteAcceptance_sameController (hrun : s.ctl = .running) :
    ∃ t, execWriteAcceptance s = .next t ∧ s.SameController t := by
  unfold execWriteAcceptance
  split
  · exact ⟨s, rfl, .refl s⟩
  · next w _ =>
    have hfree : s.SameController (finishMessage w { s with port := { s.port with busy := none } }) := by
      cases w <;> constructor <;> rfl
    have hgoes := running_eq_true_iff.mpr (hfree.ctl.trans hrun)
    simp only [hgoes, if_true]
    exact ⟨_, rfl, hfree.settle⟩

theorem writeJobTail_sameController (r : RingId) (v : BitVec 32) : s.SameController (writeJobTail r v s) := by
  unfold writeJobTail
  split
  · split
    · exact (modJobRing_sameOutside s r _).toSameController.settle
    · exact (raiseEvent_sameOutside s _).toSameController.settle
  · exact .refl s

theorem writeRptHead_sameController (n : RingId) (v : BitVec 32) : s.SameController (writeRptHead n v s) := by
  unfold writeRptHead
  split
  · split
    · exact (modPoster_sameOutside s n _).toSameController.settle
    · exact (raiseEvent_sameOutside s _).toSameController.settle
  · exact .refl s

theorem writeCtrl_running (hrun : s.ctl = .running) {c : Instr} {enable ie : Bool}
    (hc : ctrlWrite c = some (enable, ie)) : RunningOutcome c s (writeCtrl enable ie s) := by
  cases enable with
  | true =>
    have hwrite : writeCtrl true ie s = settle (writeInterruptEnable ie s) := by simp [writeCtrl, hrun]
    obtain ⟨hctl, hpending⟩ := writeInterruptEnable_kept ie s
    rw [hwrite]
    exact .goesOn (((settle_sameController _).ctl.trans hctl).trans hrun) ((settle_sameController _).pending.trans hpending)
  | false =>
    have hwrite : writeCtrl false ie s = beginStop { s with interruptEnable := ie } := by simp [writeCtrl, hrun]
    rw [hwrite]
    exact .stopped (.inr ⟨ie, hc⟩) ⟨ie, rfl⟩

theorem execRegisterWrite_running (hrun : s.ctl = .running) (offset : BitVec 12) (w : AccessWidth) (v : BitVec 32) :
    ∃ t, execRegisterWrite offset w v s = .next t ∧ RunningOutcome (.registerWrite offset w v) s t := by
  unfold execRegisterWrite
  split
  · next htaken =>
    refine ⟨_, rfl, ?_⟩
    simp only [accessTaken, Bool.and_eq_true, beq_iff_eq] at htaken
    unfold writeRegister
    split
    · next hzero =>
      have hoffset : offset = 0 := BitVec.eq_of_toNat_eq hzero
      exact writeCtrl_running hrun (by simp [ctrlWrite, hoffset, htaken.1])
    · split
      · exact (writeJobTail_sameController _ _).goesOn hrun
      · split
        · exact (writeRptHead_sameController _ _).goesOn hrun
        · have hself : writeControlRing offset.toNat v s = s := by simp [writeControlRing, hrun]
          rw [hself]
          exact .goesOn hrun rfl
  · exact ⟨s, rfl, .goesOn hrun rfl⟩

theorem withLoan_sameController (k : LoanMsgKind) (src dst : LaneId) (act : Loan → State → State)
    (h : ∀ loan (s : State), s.SameOutside (act loan s)) :
    ∃ t, withLoan k src dst act s = .next t ∧ s.SameController t := by
  unfold withLoan takeLoan
  split
  · split
    · exact ⟨s, rfl, .refl s⟩
    · next hmsg =>
      split at hmsg
      · cases hmsg
      · split at hmsg
        · cases hmsg
          refine ⟨_, rfl, State.SameController.trans ?_ (h _ _).toSameController⟩
          constructor <;> rfl
        · cases hmsg
  · exact ⟨s, rfl, .refl s⟩

/-- In RUNNING a command but power-on completes with one of the outcomes, and an ill-formed one is refused. -/
theorem exec_running (hrun : s.ctl = .running) {c : Instr} (hpower : ∀ levels, c ≠ .powerOn levels) :
    (∃ t, exec c s = .next t ∧ RunningOutcome c s t) ∨ (c.wf = false ∧ ∃ r, exec c s = .refused r) := by
  have hself (hexec : exec c s = .next s) : ∃ t, exec c s = .next t ∧ RunningOutcome c s t :=
    ⟨s, hexec, .goesOn hrun rfl⟩
  have hgo (h : ∃ t, exec c s = .next t ∧ s.SameController t) : ∃ t, exec c s = .next t ∧ RunningOutcome c s t :=
    h.imp fun _ ht => ⟨ht.1, ht.2.goesOn hrun⟩
  have hctrl {enable ie : Bool} (hc : ctrlWrite c = some (enable, ie)) :
      ∃ t, exec c s = .next t ∧ RunningOutcome c s t :=
    ⟨_, exec_of_ctrlWrite hc s, writeCtrl_running hrun hc⟩
  have hfinish {a : Access} {act : State → State} (hexec : exec c s = .next (finishing a act s))
      (h : ∀ s : State, s.SameController (act s)) : ∃ t, exec c s = .next t ∧ RunningOutcome c s t :=
    ⟨_, hexec, (finishing_sameController hrun a act h).goesOn hrun⟩
  have hfetch {e : Entry} {act : RingId → SlotId → State → State}
      (hexec : exec c s = .next (finishing .fetch (takeEntry e act) s))
      (h : ∀ r j (s : State), s.SameOutside (act r j s)) : ∃ t, exec c s = .next t ∧ RunningOutcome c s t :=
    hfinish hexec (takeEntry_sameController e act h)
  have hcontrol {e : Entry} {tag : Tag} {zeros : FinalBody} {act : SlotId → State → State}
      (hexec : exec c s = .next (finishing .fetch (takeEntry e (controlEntry tag zeros act)) s))
      (h : ∀ j (s : State), s.SameOutside (act j s)) : ∃ t, exec c s = .next t ∧ RunningOutcome c s t :=
    hfetch hexec fun r j s => controlEntry_sameOutside s tag zeros act r j h
  cases c with
  | edgeArrival l polarity stamp => exact .inl (hgo (execEdgeArrival_sameController l polarity stamp))
  | alignedArrivalDue l => exact .inl (hgo (next_ite_sameController _ (takeAligned_sameOutside s l).toSameController))
  | windowEndExpiry l | overflowBoundExpiry l =>
    exact .inl (hgo (next_ite_sameController _ (takeExpiry_sameOutside s l).toSameController))
  | startLimitExpiry j => exact .inl (hgo (next_ite_sameController _ (takeStartLimit_sameOutside s j).toSameController))
  | coalescingTimerExpiry n =>
    exact .inl (hgo (next_ite_sameController _ (takeCoalescing_sameOutside s n).toSameController))
  | width e | cycles e | span e | tally e | quiet e =>
    exact .inl (hfetch rfl fun r j s => dispatchMeasurement_sameOutside s _ e r j)
  | addBuffer e => exact .inl (hfetch rfl fun r j s => dispatchAddBuffer_sameOutside s e r j)
  | openReportRing e => exact .inl (hcontrol rfl fun j s => openReportRing_sameOutside s e j)
  | closeReportRing e => exact .inl (hcontrol rfl fun j s => closeReportRing_sameOutside s e j)
  | openJobRing e => exact .inl (hcontrol rfl fun j s => openJobRing_sameOutside s e j)
  | closeJobRing e => exact .inl (hcontrol rfl fun j s => closeJobRing_sameOutside s e j)
  | setLane e => exact .inl (hcontrol rfl fun j s => setLane_entry_sameOutside s e j)
  | claimLane e => exact .inl (hcontrol rfl fun j s => claimLane_sameOutside s e j)
  | holdLane e => exact .inl (hcontrol rfl fun j s => holdLane_sameOutside s e j)
  | releaseLane e => exact .inl (hcontrol rfl fun j s => releaseLane_sameOutside s e j)
  | cancelJob e => exact .inl (hcontrol rfl fun j s => cancelJob_sameOutside s e j)
  | peekJob e => exact .inl (hcontrol rfl fun j s => peekJob_sameOutside s e j)
  | undefinedKindEntry code tag =>
    by_cases hcode : (kindOfCode code).isSome
    · refine .inr ⟨?_, _, if_pos hcode⟩
      simpa [Instr.wf] using hcode
    · exact .inl (hfetch (if_neg hcode) fun _ j s => answer_sameOutside s j _ _)
  | fetchReadFault => exact .inl (hfinish rfl takeFetchFault_sameController)
  | recordWriteCompletion l => exact .inl (hfinish rfl fun s => (takeRecordCompletion_sameOutside s l).toSameController)
  | recordWriteFault l => exact .inl (hfinish rfl fun s => (takeRecordFault_sameOutside s l).toSameController)
  | reportWriteCompletion n => exact .inl (hfinish rfl fun s => (takeReportCompletion_sameOutside s n).toSameController)
  | reportWriteFault n =>
    by_cases hn : n = 0
    · subst hn; exact .inl ⟨_, rfl, ring0Fault_running hrun (.inr rfl)⟩
    · exact .inl (hfinish (if_neg hn) fun s => (takeReportFault_sameOutside s n).toSameController)
  | ring0ReportWriteFault => exact .inl ⟨_, rfl, ring0Fault_running hrun (.inl rfl)⟩
  | loanRequest src dst => exact .inl (hgo (withLoan_sameController _ _ _ _ fun m s => takeLoanRequest_sameOutside s _ m))
  | grant src dst => exact .inl (hgo (withLoan_sameController _ _ _ _ fun m s => takeGrant_sameOutside s _ _ m))
  | defer src dst => exact .inl (hgo (withLoan_sameController _ _ _ _ fun m s => takeDefer_sameOutside s _ m))
  | withdraw src dst => exact .inl (hgo (withLoan_sameController _ _ _ _ fun m s => takeWithdraw_sameOutside s _ m))
  | loanReturn src dst => exact .inl (hgo (withLoan_sameController _ _ _ _ fun m s => takeReturn_sameOutside s _ m))
  | placeOpenNotice src dst =>
    exact .inl (hgo (withLoan_sameController _ _ _ _ fun _ s => takePlaceOpen_sameOutside s _ _))
  | writeAcceptance => exact .inl (hgo (execWriteAcceptance_sameController hrun))
  | jobTailWrite r v => exact .inl (hgo ⟨_, rfl, writeJobTail_sameController r v⟩)
  | rptHeadWrite n v => exact .inl (hgo ⟨_, rfl, writeRptHead_sameController n v⟩)
  | timeLoRead => exact .inl ⟨_, rfl, .goesOn hrun rfl⟩
  | startUp | stop | interruptEnableSet | interruptEnableClear => exact .inl (hctrl rfl)
  | stopEnd => exact .inl (hself (if_neg fun h => by simp [hrun] at h))
  | registerWrite offset w v => exact .inl (execRegisterWrite_running hrun offset w v)
  | powerOn levels => exact absurd rfl (hpower levels)
  | pcieReset => exact .inl ⟨_, if_pos (.inl hrun), .stopped (.inl rfl) ⟨s.interruptEnable, rfl⟩⟩
  | baseTick levels => exact .inl ⟨_, rfl, .goesOn hrun rfl⟩

/-! ### The stop and power-on -/

theorem beginStop_pending : (beginStop s).pending = s.pending := by
  unfold beginStop endStopIfDone
  split <;> rfl

/-- A stop begun with nothing outstanding has ended; else it is STOPPING with what is outstanding (R179, R180). -/
theorem beginStop_ctl : (s.accesses = [] ∧ (beginStop s).ctl = .off ∧ (beginStop s).accesses = []) ∨
    (s.accesses ≠ [] ∧ (beginStop s).ctl = .stopping ∧ (beginStop s).accesses = s.accesses) := by
  unfold beginStop endStopIfDone
  by_cases h : s.accesses = [] <;> simp [h, endStop]

theorem endStop_lane (l : LaneId) : (endStop s).lane l = stoppedLane (s.line.getLsbD l.val) (s.lane l) := by
  simp [endStop, State.lane]

/-- The end of a stop keeps what was dropped (R180). -/
theorem endStop_dropped (h : s.Dropped) : (endStop s).Dropped := by
  obtain ⟨hslots, hmaps, hrings, hposters, hpointer, hfetch, hevents, hlost, hmessages, hloans, hlanes⟩ := h
  refine ⟨hslots, hmaps, hrings, hposters, hpointer, hfetch, hevents, hlost, hmessages, hloans, fun l => ?_⟩
  rw [endStop_lane, hlanes l]
  rfl

/-- What a stop leaves right away: the blocks dropped, and each lane its configuration and filter alone (R69, R179). -/
theorem beginStop_dropped (s : State) : (beginStop s).Dropped := by
  unfold beginStop endStopIfDone
  split
  · exact endStop_dropped ⟨rfl, rfl, rfl, rfl, rfl, rfl, rfl, rfl, rfl, rfl, fun l => by simp [State.lane, droppedLane]⟩
  · exact ⟨rfl, rfl, rfl, rfl, rfl, rfl, rfl, rfl, rfl, rfl, fun l => by simp [State.lane, droppedLane]⟩

/-- A stop that has ended leaves what OFF holds (R16, R180). -/
theorem endStop_stopsSound (hdropped : s.Dropped) (haccesses : s.accesses = []) : (endStop s).StopsSound := by
  refine ⟨fun _ => endStop_dropped hdropped, fun _ => ⟨haccesses, fun l => ?_⟩, fun h => nomatch h⟩
  rw [endStop_lane]
  exact ⟨rfl, rfl, rfl, rfl⟩

theorem beginStop_stopsSound (s : State) : (beginStop s).StopsSound := by
  have hdropped := beginStop_dropped s
  unfold beginStop endStopIfDone at hdropped ⊢
  split
  next h =>
    rw [if_pos h] at hdropped
    exact endStop_stopsSound ⟨rfl, rfl, rfl, rfl, rfl, rfl, rfl, rfl, rfl, rfl, fun l => by simp [State.lane, droppedLane]⟩ h.2
  next h =>
    rw [if_neg h] at hdropped
    exact ⟨fun _ => hdropped, (nomatch ·), fun _ haccesses => h ⟨rfl, haccesses⟩⟩

/-- A part in RUNNING or FATAL has nothing to show of a stop. -/
theorem stopsSound_of_ctl (hoff : s.ctl ≠ .off) (hstop : s.ctl ≠ .stopping) : s.StopsSound :=
  ⟨fun h => absurd h (not_or.mpr ⟨hoff, hstop⟩), fun h => absurd h hoff, fun h => absurd h hstop⟩

/-- Filters, registers and finished accesses keep what a stop leaves. -/
theorem State.Frozen.stopsSound {t : State} (h : s.Frozen t) (hs : s.StopsSound) : t.StopsSound := by
  have hctl := h.ctl
  refine ⟨fun hstate => ?_, fun hoff => ?_, fun hstop => ?_⟩
  · rw [hctl] at hstate
    obtain ⟨hslots, hmaps, hrings, hposters, hpointer, hfetch, hevents, hlost, hmessages, hloans, hlanes⟩ :=
      hs.dropped hstate
    rw [h.blocks]
    refine ⟨hslots, hmaps, hrings, hposters, hpointer, hfetch, hevents, hlost, hmessages, hloans, fun l => ?_⟩
    have hl : t.lane l = droppedLane (t.lane l) := by
      rw [h.lanes l, hlanes l]
      rfl
    exact hl
  · rw [hctl] at hoff
    obtain ⟨haccesses, hlanes⟩ := hs.off hoff
    refine ⟨List.eq_nil_iff_forall_not_mem.mpr fun a ha => ?_, fun l => ?_⟩
    · simpa [haccesses] using h.accesses a ha
    · obtain ⟨hwidth, hinvert, hcandidate, howner⟩ := hlanes l
      have hc := h.candidate l hwidth hcandidate
      rw [h.lanes l]
      exact ⟨hwidth, hinvert, hc, howner⟩
  · rw [hctl] at hstop
    exact h.stopping hstop (hs.stopping hstop)

theorem powerOn_stopsSound (levels : BitVec 16) :
    State.StopsSound { State.reset with
      line := levels
      lanes := Vector.ofFn fun l : Fin 16 => { filtered := levels.getLsbD l.val }
      pending := s.pending } := by
  refine ⟨fun _ => ?_, fun _ => ⟨rfl, fun l => ?_⟩, fun h => nomatch h⟩
  · exact ⟨rfl, rfl, rfl, rfl, rfl, rfl, rfl, rfl, rfl, rfl, fun l => by simp [State.lane, droppedLane]⟩
  · simp [State.lane]

/-- Every command but an ill-formed one completes, with what stops leave kept and the queue as it was. -/
theorem exec_keeps_stopsSound {c : Instr} {t : State} (hs : s.StopsSound) (hexec : exec c s = .next t) :
    t.StopsSound := by
  by_cases hpower : ∃ levels, c = .powerOn levels
  · obtain ⟨levels, rfl⟩ := hpower
    cases hexec
    exact powerOn_stopsSound levels
  · rw [not_exists] at hpower
    by_cases hrun : s.ctl = .running
    · obtain ⟨u, hu, hout⟩ | ⟨-, r, hr⟩ := exec_running hrun hpower
      · obtain rfl := Host.Outcome.next.inj (hexec.symm.trans hu)
        cases hout with
        | goesOn ctl pending => exact stopsSound_of_ctl (by simp [ctl]) (by simp [ctl])
        | fatal access command ctl pending => exact stopsSound_of_ctl (by simp [ctl]) (by simp [ctl])
        | stopped command begins => obtain ⟨ie, rfl⟩ := begins; exact beginStop_stopsSound _
      · exact nomatch hexec.symm.trans hr
    · obtain ⟨u, hu, hout⟩ | ⟨-, r, hr⟩ := exec_outside hrun hpower
      · obtain rfl := Host.Outcome.next.inj (hexec.symm.trans hu)
        cases hout with
        | frozen h => exact h.stopsSound hs
        | configured off blocks =>
          have hdropped := hs.dropped (.inl off)
          obtain ⟨haccesses, hlanes⟩ := hs.off off
          rw [blocks]
          exact ⟨fun _ => ⟨hdropped.slots, hdropped.tagMaps, hdropped.jobRings, hdropped.posters, hdropped.pointer,
            hdropped.fetch, hdropped.events, hdropped.eventsLost, hdropped.messages, hdropped.loanMsgs, hdropped.lanes⟩,
            fun _ => ⟨haccesses, hlanes⟩, fun h => nomatch off.symm.trans h⟩
        | started off valid write ctl pending => exact stopsSound_of_ctl (by simp [ctl]) (by simp [ctl])
        | stopped fatal command begins => obtain ⟨ie, rfl⟩ := begins; exact beginStop_stopsSound _
        | ended stopping command ends =>
          subst ends
          have hdropped := hs.dropped (.inr stopping)
          exact endStop_stopsSound ⟨hdropped.slots, hdropped.tagMaps, hdropped.jobRings, hdropped.posters,
            hdropped.pointer, hdropped.fetch, hdropped.events, hdropped.eventsLost, hdropped.messages,
            hdropped.loanMsgs, hdropped.lanes⟩ rfl
      · exact nomatch hexec.symm.trans hr

end

/-! ### The step -/

/-- Settles O1: the step's two branches. -/
theorem stepRunsTheFrontCommand : Obligations.StepRunsTheFrontCommand := by
  unfold Obligations.StepRunsTheFrontCommand
  refine ⟨fun c rest s h => ?_, fun s h => ?_⟩
  · unfold step; rw [h]
  · unfold step; rw [h]

/-- A property that no waiting command bears on is kept by the step when every command keeps it. -/
theorem step_keeps {I : State → Prop} (hqueue : ∀ (s : State) (q : List Instr), I s → I { s with pending := q })
    (hexec : ∀ (c : Instr) (s t : State), I s → exec c s = .next t → I t) {s t : State} (hs : I s)
    (h : step s = .next t) : I t := by
  unfold step at h
  split at h
  · cases h; exact hs
  · exact hexec _ _ t (hqueue s _ hs) h

/-- Settles O57: what a stop leaves is kept by each outcome of a command. -/
theorem everyStepKeepsTheStopsSound : Obligations.EveryStepKeepsTheStopsSound := by
  unfold Obligations.EveryStepKeepsTheStopsSound
  intro s t hs h
  refine step_keeps (fun s q hs => ?_) (fun c s t hs h => exec_keeps_stopsSound hs h) hs h
  obtain ⟨hdropped, hoff, hstop⟩ := hs
  refine ⟨fun hstate => ?_, hoff, hstop⟩
  obtain ⟨hslots, hmaps, hrings, hposters, hpointer, hfetch, hevents, hlost, hmessages, hloans, hlanes⟩ := hdropped hstate
  exact ⟨hslots, hmaps, hrings, hposters, hpointer, hfetch, hevents, hlost, hmessages, hloans, hlanes⟩

/-! ### Completion -/

/-- Settles O2: outside RUNNING and in it every well-formed command has an outcome, and each keeps the queue. -/
theorem everyCommandCompletesAndKeepsTheQueue : Obligations.EveryCommandCompletesAndKeepsTheQueue := by
  unfold Obligations.EveryCommandCompletesAndKeepsTheQueue
  intro c s hwf
  by_cases hpower : ∃ levels, c = .powerOn levels
  · obtain ⟨levels, rfl⟩ := hpower
    exact ⟨_, rfl, rfl⟩
  · rw [not_exists] at hpower
    by_cases hrun : s.ctl = .running
    · obtain ⟨t, ht, hout⟩ | ⟨hbad, -⟩ := exec_running hrun hpower
      · refine ⟨t, ht, ?_⟩
        cases hout with
        | goesOn ctl pending => exact pending
        | fatal access command ctl pending => exact pending
        | stopped command begins => obtain ⟨ie, rfl⟩ := begins; exact beginStop_pending
      · rw [hwf] at hbad; exact nomatch hbad
    · obtain ⟨t, ht, hout⟩ | ⟨hbad, -⟩ := exec_outside hrun hpower
      · refine ⟨t, ht, ?_⟩
        cases hout with
        | frozen h => exact h.pending
        | configured off blocks => rw [blocks]
        | started off valid write ctl pending => exact pending
        | stopped fatal command begins => obtain ⟨ie, rfl⟩ := begins; exact beginStop_pending
        | ended stopping command ends => rw [ends]; rfl
      · rw [hwf] at hbad; exact nomatch hbad

/-- Settles O54: each way a state is entered is an outcome of its own, and in FATAL the one that stays is frozen. -/
theorem controllerStatesAndTheFatalFreeze : Obligations.ControllerStatesAndTheFatalFreeze := by
  unfold Obligations.ControllerStatesAndTheFatalFreeze
  intro c s t hexec
  by_cases hpower : ∃ levels, c = .powerOn levels
  · obtain ⟨levels, rfl⟩ := hpower
    cases hexec
    exact ⟨(nomatch ·), (nomatch ·), (nomatch ·), fun _ => .inr (.inl ⟨levels, rfl⟩), fun _ h => nomatch h⟩
  · rw [not_exists] at hpower
    by_cases hrun : s.ctl = .running
    · obtain ⟨u, hu, hout⟩ | ⟨-, r, hr⟩ := exec_running hrun hpower
      · obtain rfl := Host.Outcome.next.inj (hexec.symm.trans hu)
        cases hout with
        | goesOn ctl pending => simp [ctl, hrun]
        | fatal access command ctl pending => simp [ctl, hrun, access, command]
        | stopped command begins =>
          obtain ⟨ie, rfl⟩ := begins
          obtain ⟨haccesses, hctl, hnone⟩ | ⟨haccesses, hctl, -⟩ :=
            beginStop_ctl (s := { s with interruptEnable := ie })
          · exact ⟨fun h => (nomatch hctl.symm.trans h), fun h => (nomatch hctl.symm.trans h),
              fun h => (nomatch hctl.symm.trans h), fun _ => .inr (.inr ⟨hnone, .inr ⟨.inl hrun, command⟩⟩),
              fun _ h => (nomatch hctl.symm.trans h)⟩
          · exact ⟨fun h => (nomatch hctl.symm.trans h), fun h => (nomatch hctl.symm.trans h),
              fun _ => .inr ⟨.inl hrun, haccesses, command⟩, fun h => (nomatch hctl.symm.trans h),
              fun _ h => (nomatch hctl.symm.trans h)⟩
      · exact nomatch hexec.symm.trans hr
    · obtain ⟨u, hu, hout⟩ | ⟨-, r, hr⟩ := exec_outside hrun hpower
      · obtain rfl := Host.Outcome.next.inj (hexec.symm.trans hu)
        cases hout with
        | frozen h =>
          have hctl := h.ctl
          exact ⟨fun ht => .inl (hctl ▸ ht), fun ht => .inl (hctl ▸ ht), fun ht => .inl (hctl ▸ ht),
            fun ht => .inl (hctl ▸ ht), fun _ _ => ⟨h.blocks, h.lanes⟩⟩
        | configured off blocks =>
          have hctl : t.ctl = .off := by rw [blocks]; exact off
          simp [hctl, off]
        | started off valid write ctl pending =>
          exact ⟨fun _ => .inr ⟨off, valid, write⟩, fun h => (nomatch ctl.symm.trans h),
            fun h => (nomatch ctl.symm.trans h), fun h => (nomatch ctl.symm.trans h), fun _ h => (nomatch ctl.symm.trans h)⟩
        | stopped fatal command begins =>
          obtain ⟨ie, rfl⟩ := begins
          obtain ⟨haccesses, hctl, hnone⟩ | ⟨haccesses, hctl, -⟩ :=
            beginStop_ctl (s := { s with interruptEnable := ie })
          · exact ⟨fun h => (nomatch hctl.symm.trans h), fun h => (nomatch hctl.symm.trans h),
              fun h => (nomatch hctl.symm.trans h), fun _ => .inr (.inr ⟨hnone, .inr ⟨.inr fatal, command⟩⟩),
              fun _ h => (nomatch hctl.symm.trans h)⟩
          · exact ⟨fun h => (nomatch hctl.symm.trans h), fun h => (nomatch hctl.symm.trans h),
              fun _ => .inr ⟨.inr fatal, haccesses, command⟩, fun h => (nomatch hctl.symm.trans h),
              fun _ h => (nomatch hctl.symm.trans h)⟩
        | ended stopping command ends =>
          have hctl : t.ctl = .off := by rw [ends]; rfl
          have haccesses : t.accesses = [] := by rw [ends]; rfl
          exact ⟨fun h => (nomatch hctl.symm.trans h), fun h => (nomatch hctl.symm.trans h),
            fun h => (nomatch hctl.symm.trans h), fun _ => .inr (.inr ⟨haccesses, .inl ⟨stopping, command⟩⟩),
            fun _ h => (nomatch hctl.symm.trans h)⟩
      · exact nomatch hexec.symm.trans hr

/-! ### Finished accesses -/

/-- Each command that is a completion or a fault finishes its access, and its block acts in RUNNING alone (R162). -/
theorem exec_of_finishedAccess {c : Instr} {a : Access} (h : finishedAccess c = some a) :
    ∃ act : State → State, ∀ s : State, exec c s = .next (finishing a act s) := by
  cases c with
  | width | cycles | span | tally | quiet | addBuffer | openReportRing | closeReportRing | openJobRing | closeJobRing
  | setLane | claimLane | holdLane | releaseLane | cancelJob | peekJob | fetchReadFault | recordWriteCompletion
  | recordWriteFault | reportWriteCompletion | ring0ReportWriteFault => cases h; exact ⟨_, fun _ => rfl⟩
  | reportWriteFault n =>
    cases h
    by_cases hn : n = 0
    · subst hn; exact ⟨_, fun _ => rfl⟩
    · exact ⟨_, fun _ => if_neg hn⟩
  | undefinedKindEntry code tag =>
    by_cases hcode : (kindOfCode code).isSome
    · exact nomatch (if_pos hcode).symm.trans h
    · obtain rfl := Option.some.inj ((if_neg hcode).symm.trans h)
      exact ⟨_, fun _ => if_neg hcode⟩
  | _ => cases h

/-- The end of a stop in the terms of Effects.lean. -/
theorem endStop_eq_stopEnded {s : State} (h : s.accesses = []) : endStop s = s.stopEnded := by
  have hsame : { s with accesses := [] } = s := by rw [← h]
  calc endStop s = endStop { s with accesses := [] } := by rw [hsame]
    _ = s.stopEnded := rfl

/-- Settles O39: a finished access outside RUNNING moves the accesses alone, and ends a stop as its last. -/
theorem completionsOutsideRunningAreOnlyFinished : Obligations.CompletionsOutsideRunningAreOnlyFinished := by
  unfold Obligations.CompletionsOutsideRunningAreOnlyFinished
  intro c a s hc
  obtain ⟨act, hexec⟩ := exec_of_finishedAccess hc
  rw [hexec]
  refine ⟨fun ha => by rw [finishing, if_neg ha], fun ha hrun => ?_⟩
  intro u
  have hfin : (finishAccess a s).running = false := not_running hrun
  simp only [finishing, ha, hfin, if_true, Bool.false_eq_true, if_false]
  congr 1
  by_cases hlast : s.ctl = .stopping ∧ u.accesses = []
  · rw [if_pos hlast]
    exact (if_pos hlast).trans (endStop_eq_stopEnded hlast.2)
  · rw [if_neg hlast]
    exact if_neg hlast

end Sys2Proof.Machine
end

section
/-! SUPPORT. The bounds, the soundness of lanes and rings and the tag maps, as a relation between two states
(`State.Keeps`): where the first holds one of them, so does the second. Each is about one piece of a block, so an update
of that piece alone decides it. -/

namespace Sys2Proof.Machine

-- One proof at a time: every thread reserves memory of its own, and the check bounds the whole.
set_option Elab.async false

/-! ### The relation, piece by piece -/

/-- Where lane `x` is within its depths, or sound, so is `y` (R43, R50, R53, R70). -/
structure Lane.Keeps (x y : Lane) : Prop where
  queue : x.queue.length ≤ Config.laneQueueDepth → y.queue.length ≤ Config.laneQueueDepth
  fifo : x.fifo.length ≤ Config.stagingDepth → y.fifo.length ≤ Config.stagingDepth
  sound : x.Sound → y.Sound

/-- Where slot `x` is within its depths, so is `y` (R75, R133). -/
structure Slot.Keeps (x y : Slot) : Prop where
  queued : x.queued.length ≤ Config.queuedBufferDepth → y.queued.length ≤ Config.queuedBufferDepth
  progress : x.reports.countP Report.isWaitingProgress ≤ Config.progressDepth →
    y.reports.countP Report.isWaitingProgress ≤ Config.progressDepth

/-- A poster is sound, and its write in flight stands on an OPEN ring (R125, R134, R137). -/
structure Poster.Good (p : Poster) : Prop where
  sound : p.Sound
  writes : p.inFlight ≠ none → p.state = .open

/-- Where a property that the steps keep holds in `s`, it holds in `t`. -/
structure State.Keeps (s t : State) : Prop where
  lane : ∀ l : LaneId, (s.lane l).Keeps (t.lane l)
  slot : ∀ j : SlotId, (s.slot j).Keeps (t.slot j)
  jobRing : ∀ r : RingId, (s.jobRing r).Sound → (t.jobRing r).Sound
  poster : ∀ n : RingId, (s.poster n).Good → (t.poster n).Good
  tags : ∀ r : RingId, ((s.tagMap r).map TagEntry.tag).Nodup → ((t.tagMap r).map TagEntry.tag).Nodup
  control : s.tagMap 0 = [] → t.tagMap 0 = []
  events : s.events.length ≤ Config.eventListDepth → t.events.length ≤ Config.eventListDepth
  messages : s.messages.Nodup → t.messages.Nodup
  pointer : s.pointer ≠ 0 → t.pointer ≠ 0

theorem Lane.Keeps.refl (x : Lane) : x.Keeps x := ⟨id, id, id⟩

theorem Lane.Keeps.trans {x y z : Lane} (h : x.Keeps y) (k : y.Keeps z) : x.Keeps z :=
  ⟨k.queue ∘ h.queue, k.fifo ∘ h.fifo, k.sound ∘ h.sound⟩

/-- An update of other fields than those of the queue, the FIFO, the loans and the context keeps a lane. -/
theorem Lane.Keeps.of_fields {x y : Lane} (hqueue : y.queue = x.queue) (hfifo : y.fifo = x.fifo)
    (hactive : y.active = x.active) (hlent : y.lentTo = x.lentTo) (hphase : y.loanPhase = x.loanPhase)
    (hhold : y.hold = x.hold) (hctx : y.ctx = x.ctx) : x.Keeps y := by
  refine ⟨by rw [hqueue]; exact id, by rw [hfifo]; exact id, fun h => ?_⟩
  obtain ⟨exclusive, context, asking, held, holding⟩ := h
  constructor <;> simp only [hqueue, hactive, hlent, hphase, hhold, hctx] <;> assumption

/-- An update that leaves queue and FIFO keeps a lane when it keeps it sound. -/
theorem Lane.Keeps.of_sound {x y : Lane} (hqueue : y.queue = x.queue) (hfifo : y.fifo = x.fifo)
    (hsound : x.Sound → y.Sound) : x.Keeps y := ⟨by rw [hqueue]; exact id, by rw [hfifo]; exact id, hsound⟩

theorem Slot.Keeps.refl (x : Slot) : x.Keeps x := ⟨id, id⟩

theorem Slot.Keeps.trans {x y z : Slot} (h : x.Keeps y) (k : y.Keeps z) : x.Keeps z :=
  ⟨k.queued ∘ h.queued, k.progress ∘ h.progress⟩

/-- Fewer queued buffers and fewer waiting PROGRESS reports are within the depths. -/
theorem Slot.Keeps.of_le {x y : Slot} (hqueued : y.queued.length ≤ x.queued.length)
    (hreports : y.reports.countP Report.isWaitingProgress ≤ x.reports.countP Report.isWaitingProgress) : x.Keeps y :=
  ⟨hqueued.trans, hreports.trans⟩

theorem Slot.Keeps.of_fields {x y : Slot} (hqueued : y.queued = x.queued) (hreports : y.reports = x.reports) :
    x.Keeps y := .of_le (by rw [hqueued]) (by rw [hreports])

theorem State.Keeps.refl (s : State) : s.Keeps s :=
  ⟨fun _ => .refl _, fun _ => .refl _, fun _ => id, fun _ => id, fun _ => id, id, id, id, id⟩

theorem State.Keeps.trans {s t u : State} (h : s.Keeps t) (k : t.Keeps u) : s.Keeps u where
  lane l := (h.lane l).trans (k.lane l)
  slot j := (h.slot j).trans (k.slot j)
  jobRing r := k.jobRing r ∘ h.jobRing r
  poster n := k.poster n ∘ h.poster n
  tags r := k.tags r ∘ h.tags r
  control := k.control ∘ h.control
  events := k.events ∘ h.events
  messages := k.messages ∘ h.messages
  pointer := k.pointer ∘ h.pointer

theorem State.Keeps.foldl {α : Type} (f : State → α → State) (h : ∀ (s : State) (a : α), s.Keeps (f s a)) (l : List α) :
    ∀ s : State, s.Keeps (l.foldl f s) := by
  induction l with
  | nil => exact .refl
  | cons a l ih => exact fun s => (h s a).trans (ih (f s a))

/-- A change of other fields than these keeps a state. -/
theorem State.Keeps.of_same {s t : State} (hlanes : t.lanes = s.lanes) (hslots : t.slots = s.slots)
    (hjobs : t.jobRings = s.jobRings) (hposters : t.posters = s.posters) (htags : t.tagMaps = s.tagMaps)
    (hevents : t.events = s.events) (hmessages : t.messages = s.messages) (hpointer : t.pointer = s.pointer) :
    s.Keeps t := by
  refine ⟨fun l => ?_, fun j => ?_, fun r => ?_, fun n => ?_, fun r => ?_, ?_, ?_, ?_, ?_⟩
  · simp only [State.lane, hlanes]; exact .refl _
  · simp only [State.slot, hslots]; exact .refl _
  · simp only [State.jobRing, hjobs]; exact id
  · simp only [State.poster, hposters]; exact id
  · simp only [State.tagMap, htags]; exact id
  · simp only [State.tagMap, htags]; exact id
  · rw [hevents]; exact id
  · rw [hmessages]; exact id
  · rw [hpointer]; exact id

/-- A change of other fields than these, after one that keeps them. -/
theorem State.Keeps.then_same {s t u : State} (h : s.Keeps t) (hlanes : u.lanes = t.lanes) (hslots : u.slots = t.slots)
    (hjobs : u.jobRings = t.jobRings) (hposters : u.posters = t.posters) (htags : u.tagMaps = t.tagMaps)
    (hevents : u.events = t.events) (hmessages : u.messages = t.messages) (hpointer : u.pointer = t.pointer) :
    s.Keeps u := h.trans (.of_same hlanes hslots hjobs hposters htags hevents hmessages hpointer)

section
variable {s : State}

/-! ### Updates of one piece -/

theorem modLane_keeps {l : LaneId} {f : Lane → Lane} (h : (s.lane l).Keeps (f (s.lane l))) : s.Keeps (s.modLane l f) where
  lane m := by
    rw [State.lane_modLane]
    split
    next hm => rw [hm]; exact h
    next => exact .refl _
  slot _ := .refl _
  jobRing _ := id
  poster _ := id
  tags _ := id
  control := id
  events := id
  messages := id
  pointer := id

theorem modSlot_keeps {j : SlotId} {f : Slot → Slot} (h : (s.slot j).Keeps (f (s.slot j))) : s.Keeps (s.modSlot j f) where
  slot i := by
    rw [State.slot_modSlot]
    split
    next hi => rw [hi]; exact h
    next => exact .refl _
  lane _ := .refl _
  jobRing _ := id
  poster _ := id
  tags _ := id
  control := id
  events := id
  messages := id
  pointer := id

theorem modJobRing_keeps {r : RingId} {f : JobRing → JobRing} (h : (s.jobRing r).Sound → (f (s.jobRing r)).Sound) :
    s.Keeps (s.modJobRing r f) where
  jobRing q := by
    rw [State.jobRing_modJobRing]
    split
    next hq => rw [hq]; exact h
    next => exact id
  lane _ := .refl _
  slot _ := .refl _
  poster _ := id
  tags _ := id
  control := id
  events := id
  messages := id
  pointer := id

theorem modPoster_keeps {n : RingId} {f : Poster → Poster} (h : (s.poster n).Good → (f (s.poster n)).Good) :
    s.Keeps (s.modPoster n f) where
  poster m := by
    rw [State.poster_modPoster]
    split
    next hm => rw [hm]; exact h
    next => exact id
  lane _ := .refl _
  slot _ := .refl _
  jobRing _ := id
  tags _ := id
  control := id
  events := id
  messages := id
  pointer := id

theorem setPoster_keeps {n : RingId} {p : Poster} (h : (s.poster n).Good → p.Good) : s.Keeps (s.setPoster n p) :=
  modPoster_keeps (f := fun _ => p) h

/-- A tag map that loses entries, or takes one with a new tag on a ring 1 to 7, stays distinct (R48). -/
theorem setTagMap_keeps {r : RingId} {m : List TagEntry}
    (htags : ((s.tagMap r).map TagEntry.tag).Nodup → (m.map TagEntry.tag).Nodup)
    (hcontrol : r = 0 → s.tagMap 0 = [] → m = []) : s.Keeps (s.setTagMap r m) where
  tags q := by
    rw [State.tagMap_setTagMap]
    split
    next hq => rw [hq]; exact htags
    next => exact id
  control h := by
    rw [State.tagMap_setTagMap]
    split
    next hr => exact hcontrol hr.symm h
    next => exact h
  lane _ := .refl _
  slot _ := .refl _
  jobRing _ := id
  poster _ := id
  events := id
  messages := id
  pointer := id

theorem sendLoan_keeps (m : LoanMsg) : s.Keeps (sendLoan m s) := .of_same rfl rfl rfl rfl rfl rfl rfl rfl

theorem raiseEvent_keeps (e : EventReport) : s.Keeps (raiseEvent e s) := by
  unfold raiseEvent
  split
  next hroom =>
    refine { State.Keeps.refl s with events := fun _ => ?_ }
    simpa using hroom
  next => exact .of_same rfl rfl rfl rfl rfl rfl rfl rfl

/-! ### Sound posters and job rings -/

/-- A poster stays good when state, indices, counts and write in flight stay. -/
theorem Poster.Good.of_fields {p q : Poster} (hstate : q.state = p.state) (hsize : q.size = p.size)
    (hhead : q.head = p.head) (htail : q.tail = p.tail) (hcount : q.coalescingCount = p.coalescingCount)
    (htime : q.coalescingTime = p.coalescingTime) (hunsignalled : q.unsignalled = p.unsignalled)
    (hflight : q.inFlight = p.inFlight) (h : p.Good) : q.Good := by
  obtain ⟨⟨indices, count, unsignalled, time⟩, writes⟩ := h
  refine ⟨⟨?_, ?_, ?_, ?_⟩, ?_⟩
  · simpa only [hstate, hsize, hhead, htail] using indices
  · simpa only [hcount] using count
  · simpa only [hcount, hunsignalled] using unsignalled
  · simpa only [htime] using time
  · simpa only [hstate, hflight] using writes

/-- The unsignalled count falls to 0, or rises below the coalescing count (R142, R143). -/
theorem Poster.Good.of_unsignalled {p : Poster} (h : p.Good) {n : Nat} {timer : Option Stamp} {pendingMessage : Bool}
    (hn : n < p.coalescingCount) :
    Poster.Good { p with unsignalled := n, timer := timer, pendingMessage := pendingMessage } :=
  ⟨⟨h.sound.indices, h.sound.count, hn, h.sound.time⟩, h.writes⟩

/-- A write that completes moves the tail on (R136). -/
theorem Poster.Good.of_completion {p : Poster} (h : p.Good) (sequence : BitVec 16) :
    Poster.Good { p with inFlight := none, tail := (p.tail + 1) % p.size, sequence := sequence } := by
  refine ⟨⟨fun hstate => ?_, h.sound.count, h.sound.unsignalled, h.sound.time⟩, fun hwrite => absurd rfl hwrite⟩
  obtain ⟨hmin, hmax, hhead, -⟩ := h.sound.indices hstate
  exact ⟨hmin, hmax, hhead, Nat.mod_lt _ (Nat.zero_lt_of_lt hhead)⟩

/-- A ring whose write faults was OPEN, so its indices stay within its size (R165). -/
theorem Poster.Good.of_fault {p : Poster} (h : p.Good) (hwrite : p.inFlight ≠ none) :
    Poster.Good { p with state := .faulted, inFlight := none } := by
  have hopen := h.writes hwrite
  exact ⟨⟨fun _ => h.sound.indices (by simp [hopen]), h.sound.count, h.sound.unsignalled, h.sound.time⟩,
    fun hwrite => absurd rfl hwrite⟩

end

end Sys2Proof.Machine
end

section
/-! SUPPORT. The operations of the blocks keep depths, sound lanes, sound rings and tag maps (`State.Keeps`): reports,
lanes and loans, ends and production. -/

namespace Sys2Proof.Machine

-- One proof at a time: every thread reserves memory of its own, and the check bounds the whole.
set_option Elab.async false

section
variable {s : State}

/-! ### Reports -/

/-- A report joins a list whose waiting PROGRESS reports stay within their depth (R131, R133). -/
theorem pushReport_keeps (j : SlotId) (body : ReportBody)
    (h : (∃ st b, body = .final st b) ∨ (s.slot j).reports.countP Report.isWaitingProgress < Config.progressDepth) :
    s.Keeps (pushReport j body s) := by
  unfold pushReport
  refine (modSlot_keeps ⟨id, fun hp => ?_⟩).trans
    (modPoster_keeps (Poster.Good.of_fields rfl rfl rfl rfl rfl rfl rfl rfl))
  rw [List.countP_append]
  obtain ⟨st, b, rfl⟩ | hroom := h
  · exact hp
  · exact (Nat.add_le_add_left List.countP_le_length _).trans hroom

theorem completeClose_keeps (r : RingId) (c : SlotId) (ended waited : Nat) :
    s.Keeps (completeClose r c ended waited s) := by
  unfold completeClose
  refine ((modJobRing_keeps fun h => ?_).trans (modSlot_keeps (.of_fields rfl rfl))).trans
    (pushReport_keeps _ _ (.inl ⟨_, _, rfl⟩))
  exact ⟨fun hclosed => absurd rfl hclosed, h.weight, h.credit⟩

theorem countFreed_keeps (r : RingId) : s.Keeps (countFreed r s) := by
  unfold countFreed
  split
  · exact .refl s
  · split
    · split
      · exact completeClose_keeps _ _ _ _
      · exact modSlot_keeps (.of_fields rfl rfl)
    · exact .refl s

theorem freeSlot_keeps (j : SlotId) : s.Keeps (freeSlot j s) :=
  (modSlot_keeps (.of_le le_rfl (Nat.zero_le _))).trans (countFreed_keeps _)

theorem dropHead_keeps (n : RingId) : s.Keeps (dropHead n s) := by
  have hposter (q : List SlotId) : s.Keeps (s.modPoster n fun p => { p with queue := q }) :=
    modPoster_keeps (Poster.Good.of_fields rfl rfl rfl rfl rfl rfl rfl rfl)
  unfold dropHead
  split
  · exact .refl s
  next j rest _ =>
    split
    · exact hposter rest
    next report others hreports =>
      have hslot : (s.modPoster n fun p => { p with queue := rest }).Keeps
          ((s.modPoster n fun p => { p with queue := rest }).modSlot j fun x => { x with reports := others }) := by
        refine modSlot_keeps (.of_le le_rfl ?_)
        rw [State.modPoster_slot, hreports]
        exact (List.sublist_cons_self _ _).countP_le
      split
      · exact ((hposter rest).trans hslot).trans (freeSlot_keeps _)
      · exact (hposter rest).trans hslot

theorem dropHeads_keeps (k : Nat) (n : RingId) : ∀ s : State, s.Keeps (dropHeads k n s) := by
  induction k with
  | zero => exact .refl
  | succ k ih => exact fun s => (dropHead_keeps n).trans (ih _)

theorem createReport_keeps (j : SlotId) (body : ReportBody)
    (h : (∃ st b, body = .final st b) ∨ (s.slot j).reports.countP Report.isWaitingProgress < Config.progressDepth) :
    s.Keeps (createReport j body s) := by
  unfold createReport
  simp only
  split
  · exact (pushReport_keeps j body h).trans (dropHeads_keeps _ _ _)
  · exact pushReport_keeps j body h

/-- Merging a retirement adds no waiting PROGRESS (R133). -/
theorem mergeNewest_countP (address : Addr) (records : BitVec 16) (rs : List Report) :
    (mergeNewest address records rs).countP Report.isWaitingProgress = rs.countP Report.isWaitingProgress := by
  induction rs with
  | nil => rfl
  | cons r rs ih =>
    unfold mergeNewest
    split
    · simp [List.countP_cons, ih]
    · split
      next n k hbody =>
        split
        · rfl
        · simp [List.countP_cons, Report.isWaitingProgress, Report.isFinal, hbody]
      next => rfl

theorem reportRetirement_keeps (j : SlotId) (b : Buffer) : s.Keeps (reportRetirement j b s) := by
  unfold reportRetirement
  split
  · exact modSlot_keeps (.of_le le_rfl (mergeNewest_countP _ _ _).le)
  next hroom => exact createReport_keeps _ _ (.inr (Nat.lt_of_not_le hroom))

theorem answer_keeps (j : SlotId) (st : Status) (body : FinalBody) : s.Keeps (answer j st body s) :=
  (modSlot_keeps (.of_fields rfl rfl)).trans (createReport_keeps _ _ (.inl ⟨_, _, rfl⟩))

theorem passVector_keeps (v : Vec) : s.Keeps (passVector v s) := by
  unfold passVector
  split
  · exact .refl s
  next hnew =>
    refine { State.Keeps.refl s with messages := fun h => ?_ }
    exact List.nodup_append.mpr ⟨h, List.nodup_singleton v, fun a ha b hb hab => hnew (by simp_all)⟩

theorem requestMessage_keeps (n : RingId) : s.Keeps (requestMessage n s) := by
  unfold requestMessage
  split
  · exact passVector_keeps _
  · exact modPoster_keeps (Poster.Good.of_fields rfl rfl rfl rfl rfl rfl rfl rfl)

theorem countPosted_keeps (n : RingId) : s.Keeps (countPosted n s) := by
  unfold countPosted
  simp only
  split
  · exact (setPoster_keeps fun h => h.of_unsignalled h.sound.count.1).trans (requestMessage_keeps n)
  next hmore =>
    have hroom (h : (s.poster n).Good) : (s.poster n).unsignalled + 1 < (s.poster n).coalescingCount :=
      Nat.lt_of_le_of_ne h.sound.unsignalled hmore
    split <;> exact setPoster_keeps fun h => h.of_unsignalled (hroom h)

theorem sendPendingMessages_keeps : s.Keeps (sendPendingMessages s) := by
  refine .foldl _ (fun s n => ?_) _ s
  split
  · exact (modPoster_keeps (Poster.Good.of_fields rfl rfl rfl rfl rfl rfl rfl rfl)).trans (passVector_keeps _)
  · exact .refl s

/-! ### Lanes and loans -/

/-- A context that begins afresh is not HELD. -/
theorem beginContext_phase (job : Job) (k : Nat) (c : Context) : (beginContext job k c).phase ≠ .held := by
  unfold beginContext
  split <;> exact (nomatch ·)

/-- A context HELD from its activation has nothing pending (R62). -/
theorem activationContext_held (job : Job) (k : Nat) (now : Stamp) (mark : Bool)
    (h : (activationContext job k now mark).phase = .held) :
    (activationContext job k now mark).pending = none ∧ (activationContext job k now mark).alignment = [] := by
  unfold activationContext at h ⊢
  cases mark with
  | true => exact ⟨rfl, rfl⟩
  | false => exact absurd h (beginContext_phase _ _ _)

/-- The head of a lane that is neither lent nor held activates (R52). -/
theorem activateHead_keeps (l : LaneId)
    (h : (s.lane l).Sound → (s.lane l).lentTo = none ∧ (s.lane l).hold = false) : s.Keeps (activateHead l s) := by
  unfold activateHead
  split
  · exact .refl s
  next head rest hqueue =>
    refine (modLane_keeps ⟨fun hq => ?_, id, fun hs => ?_⟩).trans (modSlot_keeps (.of_fields rfl rfl))
    · rw [hqueue] at hq
      exact Nat.le_of_succ_le hq
    · obtain ⟨hlent, hhold⟩ := h hs
      refine ⟨fun _ => hlent, rfl, fun hphase => absurd rfl hphase, fun c hc => ?_,
        fun hheld => (nomatch hhold.symm.trans hheld)⟩
      obtain rfl := Option.some.inj hc
      exact activationContext_held _ _ _ _

/-- The SPAN head of an idle lane asks for its partner (R55). -/
theorem sendLoanRequest_keeps (l : LaneId) (head : SlotId)
    (h : (s.lane l).Sound →
      (s.lane l).queue ≠ [] ∧ (s.lane l).active = none ∧ (s.lane l).lentTo = none ∧ (s.lane l).hold = false) :
    s.Keeps (sendLoanRequest l head s) :=
  (modLane_keeps (.of_sound rfl rfl fun hs =>
    ⟨hs.exclusive, hs.context, fun _ => h hs, hs.held, hs.holding⟩)).trans (sendLoan_keeps _)

theorem sendPlaceOpen_keeps (l : LaneId) (loan : Loan) : s.Keeps (sendPlaceOpen l loan s) := by
  refine .foldl _ (fun s m => ?_) _ s
  split
  · exact .refl s
  · exact sendLoan_keeps _

/-- The grant conditions, and a lane free for activation, in the fields of the lane (R52, R56). -/
theorem grantConditions_iff (s : State) (l : LaneId) : grantConditions s l = true ↔
    s.ctl = .running ∧ (s.lane l).active = none ∧ (s.lane l).lentTo = none ∧ (s.lane l).hold = false ∧
      (s.lane l).queue = [] := by
  simp [grantConditions, running_eq_true_iff, and_assoc]

theorem freeForActivation_iff (s : State) (l : LaneId) : freeForActivation s l = true ↔
    s.ctl = .running ∧ (s.lane l).active = none ∧ (s.lane l).lentTo = none ∧ (s.lane l).hold = false ∧
      (s.lane l).queue ≠ [] := by
  simp [freeForActivation, running_eq_true_iff, and_assoc]

/-- A lane with no active job and an empty queue is lent (R56). -/
theorem grantLoan_keeps (l : LaneId) (loan : Loan) (hactive : (s.lane l).active = none) (hqueue : (s.lane l).queue = []) :
    s.Keeps (grantLoan l loan s) := by
  refine (modLane_keeps (.of_sound rfl rfl fun hs => ?_)).trans (sendLoan_keeps _)
  refine ⟨fun h => ?_, hs.context, fun hphase => absurd hqueue (hs.asking hphase).1, hs.held, hs.holding⟩
  rw [hactive] at h
  exact nomatch h

theorem laneAct_keeps (l : LaneId) : s.Keeps (laneAct l s) := by
  unfold laneAct
  split
  next hfree =>
    obtain ⟨-, hactive, hlent, hhold, hqueue⟩ := (freeForActivation_iff s l).mp hfree
    split
    · exact .refl s
    · split
      · split
        · exact sendLoanRequest_keeps l _ fun _ => ⟨hqueue, hactive, hlent, hhold⟩
        · exact .refl s
      · exact activateHead_keeps l fun _ => ⟨hlent, hhold⟩
  next =>
    split
    next hgrant =>
      obtain ⟨-, hactive, -, -, hqueue⟩ := (grantConditions_iff s l).mp hgrant
      split
      · exact .refl s
      next loan _ =>
        have hplace : s.Keeps (s.modLane l fun x => { x with place := none }) :=
          modLane_keeps (.of_fields rfl rfl rfl rfl rfl rfl rfl)
        refine (hplace.trans (grantLoan_keeps l loan ?_ ?_)).trans (sendPlaceOpen_keeps _ _)
        · simpa using hactive
        · simpa using hqueue
    · exact .refl s

/-- A head that no longer asks keeps its lane sound (R60). -/
theorem withdrawHead_keeps (l : LaneId) : s.Keeps (withdrawHead l s) := by
  unfold withdrawHead
  refine State.Keeps.trans ?_ (modLane_keeps (.of_sound rfl rfl fun hs =>
    ⟨hs.exclusive, hs.context, fun hphase => absurd rfl hphase, hs.held, hs.holding⟩))
  split
  · exact .refl s
  · split
    · exact sendLoan_keeps _
    · exact .refl s

theorem withdrawHead_phase (s : State) (l : LaneId) : ((withdrawHead l s).lane l).loanPhase = .idle := by
  unfold withdrawHead
  rw [State.lane_modLane_self]

/-- A job that leaves a queue leaves it to an asking head, or to none that asks (R51, R60). -/
theorem leaveQueue_keeps (l : LaneId) (j : SlotId) : s.Keeps (leaveQueue l j s) := by
  have herase {u : State} (h : (u.lane l).loanPhase = .idle ∨ (u.lane l).queue.head? ≠ some j) :
      u.Keeps (u.modLane l fun x => { x with queue := x.queue.erase j }) := by
    refine modLane_keeps ⟨fun hq => List.length_erase_le.trans hq, id, fun hs =>
      ⟨hs.exclusive, hs.context, fun hphase => ?_, hs.held, hs.holding⟩⟩
    obtain ⟨hqueue, hidle⟩ := hs.asking hphase
    refine ⟨fun hnil => ?_, hidle⟩
    have hhead := h.resolve_left hphase
    cases hq : (u.lane l).queue with
    | nil => exact hqueue hq
    | cons a rest =>
      have ha : a ≠ j := by simpa [hq] using hhead
      simp [hq, List.erase_cons_tail, ha] at hnil
  unfold leaveQueue
  split
  · exact (withdrawHead_keeps l).trans (herase (.inl (withdrawHead_phase s l)))
  next hhead => exact herase (.inr hhead)

theorem takeLoanRequest_keeps (p : LaneId) (loan : Loan) : s.Keeps (takeLoanRequest p loan s) := by
  unfold takeLoanRequest
  split
  · split
    next hgrant =>
      obtain ⟨-, hactive, -, -, hqueue⟩ := (grantConditions_iff s p).mp hgrant
      exact grantLoan_keeps p loan hactive hqueue
    next => exact modLane_keeps (.of_fields rfl rfl rfl rfl rfl rfl rfl)
  · split
    · exact modLane_keeps (.of_fields rfl rfl rfl rfl rfl rfl rfl)
    · exact sendLoan_keeps _

theorem asksFor_iff (s : State) (l : LaneId) (loan : Loan) : asksFor s l loan = true ↔
    (s.lane l).queue.head? = some loan.slot ∧ isSpan (jobOf s loan.slot) = true ∧ (s.lane l).loanPhase = .asked ∧
      (s.lane l).loanNumber = loan.number := by
  simp [asksFor, and_assoc]

theorem takeGrant_keeps (l p : LaneId) (loan : Loan) : s.Keeps (takeGrant l p loan s) := by
  unfold takeGrant
  split
  next hasks =>
    obtain ⟨-, -, hphase, -⟩ := (asksFor_iff s l loan).mp hasks
    exact activateHead_keeps l fun hs => (hs.asking (by simp [hphase])).2.2
  next => exact sendLoan_keeps _

theorem takeDefer_keeps (l : LaneId) (loan : Loan) : s.Keeps (takeDefer l loan s) := by
  unfold takeDefer
  split
  next hasks =>
    obtain ⟨-, -, hphase, -⟩ := (asksFor_iff s l loan).mp hasks
    exact modLane_keeps (.of_sound rfl rfl fun hs =>
      ⟨hs.exclusive, hs.context, fun _ => hs.asking (by simp [hphase]), hs.held, hs.holding⟩)
  next => exact .refl s

theorem takeWithdraw_keeps (p : LaneId) (loan : Loan) : s.Keeps (takeWithdraw p loan s) := by
  unfold takeWithdraw
  split
  · exact (modLane_keeps (.of_fields rfl rfl rfl rfl rfl rfl rfl)).trans (sendPlaceOpen_keeps _ _)
  · exact .refl s

/-- A lane that is lent no longer stays sound (R61, R63). -/
theorem clearLentTo_keeps (p : LaneId) : s.Keeps (s.modLane p fun x => { x with lentTo := none }) :=
  modLane_keeps (.of_sound rfl rfl fun hs =>
    ⟨fun _ => rfl, hs.context, fun hphase => ⟨(hs.asking hphase).1, (hs.asking hphase).2.1, rfl, (hs.asking hphase).2.2.2⟩,
      hs.held, hs.holding⟩)

theorem takeReturn_keeps (p : LaneId) (loan : Loan) : s.Keeps (takeReturn p loan s) := by
  unfold takeReturn
  split
  · exact (clearLentTo_keeps p).trans (laneAct_keeps p)
  · exact .refl s

theorem takePlaceOpen_keeps (l p : LaneId) : s.Keeps (takePlaceOpen l p s) := by
  unfold takePlaceOpen
  simp only
  split
  · exact .refl s
  next head rest hqueue =>
    split
    next hasks =>
      simp only [Bool.and_eq_true, beq_iff_eq, Option.isNone_iff_eq_none, Bool.not_eq_true'] at hasks
      obtain ⟨⟨⟨-, hactive⟩, hlent⟩, hhold⟩ := hasks
      exact sendLoanRequest_keeps l head fun _ => ⟨by simp [hqueue], hactive, hlent, hhold⟩
    next => exact .refl s

/-! ### Ends and production -/

theorem completeCancel_keeps (c : SlotId) : s.Keeps (completeCancel c s) := by
  unfold completeCancel
  split
  · exact answer_keeps _ _ _
  · exact .refl s

theorem enterPosting_keeps (j : SlotId) : s.Keeps (enterPosting j s) := by
  unfold enterPosting
  simp only
  have hmap : s.Keeps (s.setTagMap (s.slot j).ring ((s.tagMap (s.slot j).ring).filter fun e => e.slot != j)) :=
    setTagMap_keeps (fun h => h.sublist (List.filter_sublist.map _)) fun hr h => by rw [hr, h]; rfl
  have hposted := (hmap.trans (modSlot_keeps (j := j)
    (f := fun y => { y with state := .posting, cancelWaiter := none }) (.of_fields rfl rfl))).trans
    (createReport_keeps j (.final ((s.slot j).endStatus.getD .ok) (finalAccount (s.slot j))) (.inl ⟨_, _, rfl⟩))
  split
  · exact hposted
  · exact hposted.trans (completeCancel_keeps _)

theorem finishDraining_keeps (j : SlotId) : s.Keeps (finishDraining j s) := by
  unfold finishDraining
  split
  · exact enterPosting_keeps j
  · exact .refl s

theorem returnPartner_keeps (l : LaneId) (j : SlotId) : s.Keeps (returnPartner l j s) := by
  unfold returnPartner
  simp only
  split
  · split
    · exact clearLentTo_keeps _
    · exact .refl s
  · exact .refl s

theorem endWith_keeps (x : Slot) (st : Status) (state : SlotState) :
    x.Keeps { x.endWith st with state := state, startTimer := none } := by
  unfold Slot.endWith
  split <;> exact .of_fields rfl rfl

theorem detachActive_keeps (l : LaneId) (j : SlotId) (st : Status) : s.Keeps (detachActive l j st s) := by
  unfold detachActive
  refine ((returnPartner_keeps l j).trans (modLane_keeps (.of_sound rfl rfl fun hs => ?_))).trans
    (modSlot_keeps (endWith_keeps _ _ _))
  exact ⟨(nomatch ·), rfl, fun hphase => ⟨(hs.asking hphase).1, rfl, (hs.asking hphase).2.2⟩,
    fun _ hc => (nomatch hc), fun _ _ hc => (nomatch hc)⟩

theorem lanesAct_keeps (l : LaneId) (job : Job) : s.Keeps (lanesAct l job s) := by
  unfold lanesAct
  simp only
  split
  · exact (laneAct_keeps l).trans (laneAct_keeps _)
  · exact laneAct_keeps l

theorem endActive_keeps (l : LaneId) (j : SlotId) (st : Status) : s.Keeps (endActive l j st s) :=
  ((detachActive_keeps l j st).trans (lanesAct_keeps _ _)).trans (finishDraining_keeps _)

theorem detachPending_keeps (l : LaneId) (j : SlotId) (st : Status) : s.Keeps (detachPending l j st s) :=
  (leaveQueue_keeps l j).trans (modSlot_keeps (endWith_keeps _ _ _))

theorem endPending_keeps (l : LaneId) (j : SlotId) (st : Status) : s.Keeps (endPending l j st s) :=
  ((detachPending_keeps l j st).trans (finishDraining_keeps _)).trans (laneAct_keeps _)

theorem reservePlace_keeps (b : Buffer) (x : Slot) : x.Keeps (reservePlace b x) := by
  unfold reservePlace
  simp only
  split
  · exact .of_le (by simp) le_rfl
  · exact .of_fields rfl rfl

theorem stagingBuffer_eq_some {x : Slot} {y : Lane} {b : Buffer} (h : stagingBuffer x y = some b) :
    x.current = some b ∧ x.reserved < b.capacity ∧ y.fifo.length < Config.stagingDepth := by
  unfold stagingBuffer at h
  split at h
  · exact nomatch h
  next b' hcurrent =>
    split at h
    next hroom => obtain rfl := Option.some.inj h; exact ⟨hcurrent, hroom⟩
    · exact nomatch h

theorem stageOrLose_keeps (l : LaneId) (j : SlotId) (index : BitVec 64) (m : Measurement) (flags : MeasFlags) :
    s.Keeps (stageOrLose l j index m flags s) := by
  unfold stageOrLose
  simp only
  split
  next b hb =>
    obtain ⟨-, -, hroom⟩ := stagingBuffer_eq_some hb
    refine (modLane_keeps ⟨id, fun _ => ?_, fun hs => ?_⟩).trans (modSlot_keeps (reservePlace_keeps b _))
    · simpa using hroom
    · exact ⟨hs.exclusive, hs.context, hs.asking, hs.held, hs.holding⟩
  next => exact modSlot_keeps (.of_fields rfl rfl)

theorem accountProduction_keeps (l : LaneId) (j : SlotId) (m : Measurement) (flags : MeasFlags) :
    s.Keeps (accountProduction l j m flags s) := by
  unfold accountProduction
  exact (modSlot_keeps (.of_fields rfl rfl)).trans (stageOrLose_keeps _ _ _ _ _)

/-- The accounts of a production leave each lane but its FIFO. -/
theorem accountProduction_lane (l m : LaneId) (j : SlotId) (meas : Measurement) (flags : MeasFlags) :
    ∃ fifo, (accountProduction l j meas flags s).lane m = { s.lane m with fifo := fifo } := by
  unfold accountProduction stageOrLose
  simp only
  split
  · by_cases hm : m = l
    · subst hm
      exact ⟨_, by rw [State.modSlot_lane, State.lane_modLane_self]; rfl⟩
    · exact ⟨_, by rw [State.modSlot_lane, State.lane_modLane_ne _ _ hm]; rfl⟩
  · exact ⟨_, rfl⟩

/-- A context that is not HELD gives way to another that is not (R43). -/
theorem setContext_keeps {l : LaneId} {c : Context}
    (h : (s.lane l).Sound → ∃ c', (s.lane l).ctx = some c' ∧ c'.phase ≠ .held) (hc : c.phase ≠ .held) :
    s.Keeps (setContext l c s) := by
  refine modLane_keeps (.of_sound rfl rfl fun hs => ?_)
  obtain ⟨c', hctx, hphase⟩ := h hs
  refine ⟨hs.exclusive, ?_, hs.asking, fun c'' h hheld => ?_, fun hhold => absurd (hs.holding hhold c' hctx) hphase⟩
  · rw [← hs.context, hctx]; rfl
  · obtain rfl := Option.some.inj h
    exact absurd hheld hc

theorem produce_keeps {l : LaneId} (j : SlotId) (m : Measurement) {next : Context}
    (h : (s.lane l).Sound → ∃ c, (s.lane l).ctx = some c ∧ c.phase ≠ .held) (hnext : next.phase ≠ .held) :
    s.Keeps (produce l j m next s) := by
  unfold produce
  simp only
  split
  · exact (accountProduction_keeps _ _ _ _).trans (endActive_keeps _ _ _)
  · refine (accountProduction_keeps _ _ _ _).trans (setContext_keeps (fun hs => ?_) hnext)
    obtain ⟨fifo, hlane⟩ := accountProduction_lane (s := s) l l j m
      (measurementFlags (jobOf s j) m.value m.overflow m.edgeSeen)
    rw [hlane] at hs ⊢
    exact h ⟨hs.exclusive, hs.context, hs.asking, hs.held, hs.holding⟩

end

end Sys2Proof.Machine
end

section
/-! SUPPORT. Every command is a chain of moves of the blocks (`exec_moves`): what a property of the blocks has to survive
is listed once, as the constructors of `Move`. -/

namespace Sys2Proof.Machine

-- One proof at a time: every thread reserves memory of its own, and the check bounds the whole.
set_option Elab.async false

/-- The actions of the control requests after steps 1 and 2 (R147). -/
inductive ControlAct : (SlotId → State → State) → Prop where
  | openReportRing (e : OpenReportRingEntry) : ControlAct (openReportRing e)
  | closeReportRing (e : CloseRingEntry) : ControlAct (closeReportRing e)
  | openJobRing (e : OpenJobRingEntry) : ControlAct (openJobRing e)
  | closeJobRing (e : CloseRingEntry) : ControlAct (closeJobRing e)
  | setLane (e : SetLaneEntry) : ControlAct (setLane e)
  | claimLane (e : ClaimLaneEntry) : ControlAct (claimLane e)
  | holdLane (e : LaneEntry) : ControlAct (holdLane e)
  | releaseLane (e : LaneEntry) : ControlAct (releaseLane e)
  | cancelJob (e : JobNameEntry) : ControlAct (cancelJob e)
  | peekJob (e : JobNameEntry) : ControlAct (peekJob e)

/-- The dispatch of each kind of entry (R115, R120). -/
inductive EntryAct : (RingId → SlotId → State → State) → Prop where
  | measurement (kind : MeasKind) (e : MeasEntry) : EntryAct (dispatchMeasurement kind e)
  | addBuffer (e : AddBufferEntry) : EntryAct (dispatchAddBuffer e)
  | undefined : EntryAct fun _ j s => answer j .badKind .empty s
  | control (tag : Tag) (zeros : FinalBody) {act : SlotId → State → State} (h : ControlAct act) :
    EntryAct (controlEntry tag zeros act)

/-- `t` differs from `s` in the controller, the registers, the accesses and the port, the loan messages, and in each
lane's configuration, owner and filter alone. -/
structure State.SameJobs (s t : State) : Prop where
  lane : ∀ l : LaneId, t.lane l =
    { s.lane l with
      filterWidth := (t.lane l).filterWidth, invert := (t.lane l).invert, filtered := (t.lane l).filtered,
      candidate := (t.lane l).candidate, formed := (t.lane l).formed, owner := (t.lane l).owner }
  slots : t.slots = s.slots
  tagMaps : t.tagMaps = s.tagMaps
  jobRings : t.jobRings = s.jobRings
  pointer : t.pointer = s.pointer
  fetch : t.fetch = s.fetch
  posters : t.posters = s.posters
  events : t.events = s.events
  messages : t.messages = s.messages

/-- The moves of the blocks of which every command is made. -/
inductive Move (s : State) : State → Prop where
  | same {t : State} (h : s.SameJobs t) : Move s t
  | dropped {t : State} (h : t.Dropped) : Move s t
  | startUp (valid : configValid s = true) : Move s (takeStartUp s)
  | sendPending : Move s (sendPendingMessages s)
  | settle : Move s (settle s)
  | arrival (l : LaneId) (a : Arrival) : Move s (takeArrival l a s)
  | aligned (l : LaneId) : Move s (takeAligned l s)
  | expiry (l : LaneId) : Move s (takeExpiry l s)
  | startLimit (j : SlotId) : Move s (takeStartLimit j s)
  | coalescing (n : RingId) : Move s (takeCoalescing n s)
  | entry (e : Entry) {act : RingId → SlotId → State → State} (h : EntryAct act) : Move s (takeEntry e act s)
  | fetchFault : Move s (takeFetchFault s)
  | recordCompletion (l : LaneId) : Move s (takeRecordCompletion l s)
  | recordFault (l : LaneId) : Move s (takeRecordFault l s)
  | reportCompletion (n : RingId) : Move s (takeReportCompletion n s)
  | reportFault (n : RingId) : Move s (takeReportFault n s)
  | loanRequest (p : LaneId) (loan : Loan) : Move s (takeLoanRequest p loan s)
  | grant (l p : LaneId) (loan : Loan) : Move s (takeGrant l p loan s)
  | defer (l : LaneId) (loan : Loan) : Move s (takeDefer l loan s)
  | withdraw (p : LaneId) (loan : Loan) : Move s (takeWithdraw p loan s)
  | loanReturn (p : LaneId) (loan : Loan) : Move s (takeReturn p loan s)
  | placeOpen (l p : LaneId) : Move s (takePlaceOpen l p s)
  | jobTail (r : RingId) {v : Nat} (state : (s.jobRing r).state = .open) (index : v < (s.jobRing r).size) :
    Move s (s.modJobRing r fun q => { q with tail := v })
  | rptHead (n : RingId) {v : Nat} (index : v < (s.poster n).size) :
    Move s (s.modPoster n fun p => { p with head := v })
  | event (e : EventReport) : Move s (raiseEvent e s)

/-- A chain of moves. -/
abbrev State.Moves : State → State → Prop := Relation.ReflTransGen Move

section
variable {s : State}

theorem Move.moves {t : State} (h : Move s t) : s.Moves t := .single h

theorem State.SameJobs.moves {t : State} (h : s.SameJobs t) : s.Moves t := .single (.same h)

/-- An action, closed by the fetch and grant decisions. -/
theorem State.Moves.settle {t : State} (h : s.Moves t) : s.Moves (settle t) := .tail h .settle

/-- A change outside the blocks that leaves the lanes. -/
theorem State.SameJobs.of_lanes {t : State} (lanes : t.lanes = s.lanes) (slots : t.slots = s.slots)
    (tagMaps : t.tagMaps = s.tagMaps) (jobRings : t.jobRings = s.jobRings) (pointer : t.pointer = s.pointer)
    (fetch : t.fetch = s.fetch) (posters : t.posters = s.posters) (events : t.events = s.events)
    (messages : t.messages = s.messages) : s.SameJobs t :=
  ⟨fun l => by simp only [State.lane, lanes], slots, tagMaps, jobRings, pointer, fetch, posters, events, messages⟩

theorem State.Frozen.sameJobs {t : State} (h : s.Frozen t) : s.SameJobs t := by
  have hblocks := h.blocks
  refine ⟨fun l => ?_, ?_, ?_, ?_, ?_, ?_, ?_, ?_, ?_⟩
  · rw [h.lanes l]
  all_goals rw [hblocks]

theorem endStop_sameJobs (s : State) : s.SameJobs (endStop s) :=
  ⟨fun l => by rw [endStop_lane]; rfl, rfl, rfl, rfl, rfl, rfl, rfl, rfl, rfl⟩

theorem endStopIfDone_sameJobs (s : State) : s.SameJobs (endStopIfDone s) := by
  unfold endStopIfDone
  split
  · exact endStop_sameJobs s
  · exact .of_lanes rfl rfl rfl rfl rfl rfl rfl rfl rfl

theorem finishing_moves {a : Access} {act : State → State} (h : ∀ s, Move s (act s)) : s.Moves (finishing a act s) := by
  unfold finishing
  split
  · have hfinish : s.Moves (finishAccess a s) :=
      State.SameJobs.moves (.of_lanes rfl rfl rfl rfl rfl rfl rfl rfl rfl)
    simp only
    split
    · exact State.Moves.settle (hfinish.tail (h _))
    · exact hfinish.tail (.same (endStopIfDone_sameJobs _))
  · exact .refl

theorem takeRing0Fault_move : Move s (takeRing0Fault s) := by
  unfold takeRing0Fault
  split <;> exact .same (.of_lanes rfl rfl rfl rfl rfl rfl rfl rfl rfl)

theorem execEdgeArrival_moves {l : LaneId} {polarity : Polarity} {stamp : Stamp} {t : State}
    (h : execEdgeArrival l polarity stamp s = .next t) : s.Moves t := by
  unfold execEdgeArrival at h
  split at h
  · cases h; exact .refl
  next a rest _ =>
    split at h
    · cases h
      have hformed : s.Frozen (s.modLane l fun x => { x with formed := rest }) := modLane_frozen l _ rfl fun hc => hc
      exact State.Moves.settle (hformed.sameJobs.moves.tail (.arrival l _))
    · cases h; exact .refl

/-- An event that is taken under a condition. -/
theorem next_ite_moves {p : Prop} [Decidable p] {u t : State} (hu : Move s u)
    (h : (if p then .next (settle u) else .next s : Host.Outcome State Fault Refusal) = .next t) : s.Moves t := by
  split at h
  · cases h; exact hu.moves.settle
  · cases h; exact .refl

theorem execWriteAcceptance_moves {t : State} (h : execWriteAcceptance s = .next t) : s.Moves t := by
  unfold execWriteAcceptance at h
  split at h
  · cases h; exact .refl
  next w _ =>
    have hfree : s.Moves (finishMessage w { s with port := { s.port with busy := none } }) := by
      cases w <;> exact State.SameJobs.moves (.of_lanes rfl rfl rfl rfl rfl rfl rfl rfl rfl)
    simp only at h
    split at h
    · cases h; exact hfree.settle
    · cases h; exact hfree.tail (.same (endStopIfDone_sameJobs _))

theorem writeJobTail_moves (r : RingId) (v : BitVec 32) : s.Moves (writeJobTail r v s) := by
  unfold writeJobTail
  split
  · split
    next htaken => exact (Move.jobTail r htaken.1 htaken.2).moves.settle
    next => exact (Move.event _).moves.settle
  · exact .refl

theorem writeRptHead_moves (n : RingId) (v : BitVec 32) : s.Moves (writeRptHead n v s) := by
  unfold writeRptHead
  split
  · split
    next htaken => exact (Move.rptHead n (Poster.lt_size_of_headAccepted htaken.2)).moves.settle
    next => exact (Move.event _).moves.settle
  · exact .refl

theorem interruptEnable_moves (ie : Bool) : s.Moves { s with interruptEnable := ie } :=
  State.SameJobs.moves (.of_lanes rfl rfl rfl rfl rfl rfl rfl rfl rfl)

theorem writeInterruptEnable_moves (ie : Bool) : s.Moves (writeInterruptEnable ie s) := by
  unfold writeInterruptEnable
  simp only
  split
  · exact (interruptEnable_moves ie).tail .sendPending
  · exact interruptEnable_moves ie

theorem writeCtrl_moves (enable ie : Bool) : s.Moves (writeCtrl enable ie s) := by
  unfold writeCtrl
  split
  · exact .refl
  · split
    · split
      next hvalid => exact State.Moves.settle ((Move.startUp hvalid).moves.trans (writeInterruptEnable_moves ie))
      next => exact State.SameJobs.moves (.of_lanes rfl rfl rfl rfl rfl rfl rfl rfl rfl)
    · exact interruptEnable_moves ie
  · split
    · exact (writeInterruptEnable_moves ie).settle
    · exact (Move.dropped (beginStop_dropped _)).moves
  · split
    · exact interruptEnable_moves ie
    · exact (Move.dropped (beginStop_dropped _)).moves

theorem writeControlRing_moves (offset : Nat) (v : BitVec 32) : s.Moves (writeControlRing offset v s) := by
  unfold writeControlRing
  (repeat' split) <;> exact State.SameJobs.moves (.of_lanes rfl rfl rfl rfl rfl rfl rfl rfl rfl)

theorem execRegisterWrite_moves {offset : BitVec 12} {w : AccessWidth} {v : BitVec 32} {t : State}
    (h : execRegisterWrite offset w v s = .next t) : s.Moves t := by
  unfold execRegisterWrite at h
  split at h
  · cases h
    unfold writeRegister
    split
    · exact writeCtrl_moves _ _
    · split
      · exact writeJobTail_moves _ _
      · split
        · exact writeRptHead_moves _ _
        · exact writeControlRing_moves _ _
  · cases h; exact .refl

theorem withLoan_moves {k : LoanMsgKind} {src dst : LaneId} {act : Loan → State → State} {t : State}
    (hact : ∀ loan s, Move s (act loan s)) (h : withLoan k src dst act s = .next t) : s.Moves t := by
  unfold withLoan takeLoan at h
  split at h
  · split at h
    · cases h; exact .refl
    next hmsg =>
      cases h
      split at hmsg
      · exact nomatch hmsg
      · split at hmsg
        · cases hmsg
          have htaken (q : List LoanMsg) : s.SameJobs { s with loanMsgs := q } :=
            .of_lanes rfl rfl rfl rfl rfl rfl rfl rfl rfl
          exact (htaken _).moves.tail (hact _ _)
        · exact nomatch hmsg
  · cases h; exact .refl

/-- Every command is a chain of moves. -/
theorem exec_moves {c : Instr} {t : State} (h : exec c s = .next t) : s.Moves t := by
  have hfinish {a : Access} {act : State → State} (hact : ∀ s, Move s (act s))
      (h : Host.Outcome.next (finishing a act s) = (.next t : Host.Outcome State Fault Refusal)) : s.Moves t := by
    cases h; exact finishing_moves hact
  have hcontrol {e : Entry} {tag : Tag} {zeros : FinalBody} {act : SlotId → State → State} (hact : ControlAct act)
      (h : Host.Outcome.next (finishing .fetch (takeEntry e (controlEntry tag zeros act)) s) =
        (.next t : Host.Outcome State Fault Refusal)) : s.Moves t :=
    hfinish (fun _ => .entry e (.control tag zeros hact)) h
  have hnext {u : State} (hu : s.Moves u) (h : Host.Outcome.next u = (.next t : Host.Outcome State Fault Refusal)) :
      s.Moves t := by
    cases h; exact hu
  cases c with
  | edgeArrival l polarity stamp => exact execEdgeArrival_moves h
  | alignedArrivalDue l => exact next_ite_moves (.aligned l) h
  | windowEndExpiry l | overflowBoundExpiry l => exact next_ite_moves (.expiry l) h
  | startLimitExpiry j => exact next_ite_moves (.startLimit j) h
  | coalescingTimerExpiry n => exact next_ite_moves (.coalescing n) h
  | width e | cycles e | span e | tally e | quiet e => exact hfinish (fun _ => .entry _ (.measurement _ e)) h
  | addBuffer e => exact hfinish (fun _ => .entry _ (.addBuffer e)) h
  | openReportRing e => exact hcontrol (.openReportRing e) h
  | closeReportRing e => exact hcontrol (.closeReportRing e) h
  | openJobRing e => exact hcontrol (.openJobRing e) h
  | closeJobRing e => exact hcontrol (.closeJobRing e) h
  | setLane e => exact hcontrol (.setLane e) h
  | claimLane e => exact hcontrol (.claimLane e) h
  | holdLane e => exact hcontrol (.holdLane e) h
  | releaseLane e => exact hcontrol (.releaseLane e) h
  | cancelJob e => exact hcontrol (.cancelJob e) h
  | peekJob e => exact hcontrol (.peekJob e) h
  | undefinedKindEntry code tag =>
    by_cases hcode : (kindOfCode code).isSome
    · exact nomatch (if_pos hcode).symm.trans h
    · exact hfinish (fun _ => .entry _ .undefined) ((if_neg hcode).symm.trans h)
  | fetchReadFault => exact hfinish (fun _ => .fetchFault) h
  | recordWriteCompletion l => exact hfinish (fun _ => .recordCompletion l) h
  | recordWriteFault l => exact hfinish (fun _ => .recordFault l) h
  | reportWriteCompletion n => exact hfinish (fun _ => .reportCompletion n) h
  | reportWriteFault n =>
    by_cases hn : n = 0
    · exact hfinish (fun _ => takeRing0Fault_move) ((if_pos hn).symm.trans h)
    · exact hfinish (fun _ => .reportFault n) ((if_neg hn).symm.trans h)
  | ring0ReportWriteFault => exact hfinish (fun _ => takeRing0Fault_move) h
  | loanRequest src dst => exact withLoan_moves (fun loan _ => .loanRequest dst loan) h
  | grant src dst => exact withLoan_moves (fun loan _ => .grant dst src loan) h
  | defer src dst => exact withLoan_moves (fun loan _ => .defer dst loan) h
  | withdraw src dst => exact withLoan_moves (fun loan _ => .withdraw dst loan) h
  | loanReturn src dst => exact withLoan_moves (fun loan _ => .loanReturn dst loan) h
  | placeOpenNotice src dst => exact withLoan_moves (fun _ _ => .placeOpen dst src) h
  | writeAcceptance => exact execWriteAcceptance_moves h
  | jobTailWrite r v => exact hnext (writeJobTail_moves r v) h
  | rptHeadWrite n v => exact hnext (writeRptHead_moves n v) h
  | timeLoRead =>
    cases h
    exact State.SameJobs.moves (.of_lanes rfl rfl rfl rfl rfl rfl rfl rfl rfl)
  | startUp ie | stop ie => exact hnext (writeCtrl_moves _ ie) h
  | interruptEnableSet enable | interruptEnableClear enable => exact hnext (writeCtrl_moves enable _) h
  | stopEnd =>
    by_cases hstop : s.ctl = .stopping ∧ s.outstandingCount ≤ 1
    · refine hnext ?_ ((if_pos hstop).symm.trans h)
      have hnone : s.SameJobs { s with accesses := [] } := .of_lanes rfl rfl rfl rfl rfl rfl rfl rfl rfl
      exact hnone.moves.tail (.same (endStop_sameJobs _))
    · exact hnext .refl ((if_neg hstop).symm.trans h)
  | registerWrite offset w v => exact execRegisterWrite_moves h
  | powerOn levels => exact hnext (Move.dropped ((powerOn_stopsSound levels).dropped (.inl rfl))).moves h
  | pcieReset =>
    by_cases hstate : s.ctl = .running ∨ s.ctl = .fatal
    · exact hnext (Move.dropped (beginStop_dropped s)).moves ((if_pos hstate).symm.trans h)
    · exact hnext .refl ((if_neg hstate).symm.trans h)
  | baseTick levels =>
    obtain ⟨u, hu, hfrozen⟩ := baseTick_frozen (s := s) levels
    exact hnext hfrozen.sameJobs.moves (hu.symm.trans h)

/-- A property of the blocks that every move keeps is kept by the step. -/
theorem step_keeps_of_moves {I : State → Prop} (h : ∀ s t : State, Move s t → I s → I t) {s t : State} (hs : I s)
    (hstep : step s = .next t) : I t := by
  refine step_keeps (I := I) (fun s q hs => ?_) (fun c s t hs hexec => ?_) hs hstep
  · exact h s _ (.same (.of_lanes rfl rfl rfl rfl rfl rfl rfl rfl rfl)) hs
  · have hmoves := exec_moves hexec
    clear hexec
    induction hmoves with
    | refl => exact hs
    | tail _ hmove ih => exact h _ _ hmove ih

end

end Sys2Proof.Machine
end

section
/-! SUPPORT. Every move keeps depths, sound lanes, sound rings and tag maps (`Move.keeps`), and so does every step
(sections 2.10, 3.2 to 3.4, 4.1, 6.1, 7.1 to 7.7). -/

namespace Sys2Proof.Machine

-- One proof at a time: every thread reserves memory of its own, and the check bounds the whole.
set_option Elab.async false

section
variable {s : State}

/-! ### Arrivals and expiries -/

/-- A sound lane that has an expiry pending, or an arrival aligned, is not HELD (R43). -/
theorem Lane.Sound.not_held {x : Lane} {c : Context} (h : x.Sound) (hctx : x.ctx = some c)
    (hlive : c.pending ≠ none ∨ c.alignment ≠ []) : c.phase ≠ .held := by
  intro hheld
  obtain ⟨hpending, halignment⟩ := h.held c hctx hheld
  exact hlive.elim (· hpending) (· halignment)

theorem takeExpiry_keeps (l : LaneId) : s.Keeps (takeExpiry l s) := by
  unfold takeExpiry
  split
  next c j hctx _ =>
    simp only
    split
    · exact .refl s
    next p hp =>
      have hlive (hs : (s.lane l).Sound) : ∃ c, (s.lane l).ctx = some c ∧ c.phase ≠ .held :=
        ⟨c, hctx, hs.not_held hctx (.inl (by simp [hp]))⟩
      split
      · exact produce_keeps j _ hlive (nomatch ·)
      · exact produce_keeps j _ hlive (nomatch ·)
  · exact .refl s

theorem takeExpiriesUpTo_keeps (k : Nat) (l : LaneId) (t : Stamp) : ∀ s : State, s.Keeps (takeExpiriesUpTo k l t s) := by
  induction k with
  | zero => exact .refl
  | succ k ih =>
    intro s
    unfold takeExpiriesUpTo
    split
    · exact .refl s
    · split
      · exact (takeExpiry_keeps l).trans (ih _)
      · exact .refl s

theorem takeExpiriesBefore_keeps (l : LaneId) (t : Stamp) : s.Keeps (takeExpiriesBefore l t s) :=
  takeExpiriesUpTo_keeps _ _ _ s

theorem takeStart_keeps (j : SlotId) : s.Keeps (takeStart j s) := modSlot_keeps (.of_fields rfl rfl)

theorem startMeasuring_phase (e : MeasEntry) (k : Nat) (start : Stamp) (c : Context) :
    (startMeasuring e k start c).phase ≠ .held := (nomatch ·)

section
variable {l : LaneId} {c : Context} (hctx : (s.lane l).ctx = some c) (hphase : c.phase ≠ .held)
include hctx hphase

theorem widthArrival_keeps (j : SlotId) (a : Arrival) : s.Keeps (widthArrival l j c a s) := by
  unfold widthArrival
  simp only
  split
  · split
    · exact (setContext_keeps (fun _ => ⟨c, hctx, hphase⟩) (startMeasuring_phase _ _ _ _)).trans (takeStart_keeps _)
    · exact .refl s
  · split
    · refine produce_keeps j _ (fun _ => ⟨c, hctx, hphase⟩) ?_
      split <;> exact (nomatch ·)
    · exact .refl s
  · exact .refl s

theorem cyclesArrival_keeps (j : SlotId) (a : Arrival) : s.Keeps (cyclesArrival l j c a s) := by
  unfold cyclesArrival
  simp only
  split
  · split
    · exact (setContext_keeps (fun _ => ⟨c, hctx, hphase⟩) (startMeasuring_phase _ _ _ _)).trans (takeStart_keeps _)
    · split
      · exact produce_keeps j _ (fun _ => ⟨c, hctx, hphase⟩) (nomatch ·)
      · exact setContext_keeps (fun _ => ⟨c, hctx, hphase⟩) hphase
    · exact .refl s
  · exact .refl s

theorem spanArrival_keeps (j : SlotId) (src : LaneId) (a : Arrival) : s.Keeps (spanArrival l j src c a s) := by
  unfold spanArrival
  simp only
  split
  · split
    · exact (setContext_keeps (fun _ => ⟨c, hctx, hphase⟩) (startMeasuring_phase _ _ _ _)).trans (takeStart_keeps _)
    · exact .refl s
  · split
    · exact produce_keeps j _ (fun _ => ⟨c, hctx, hphase⟩) (nomatch ·)
    · exact .refl s
  · exact .refl s

omit hctx hphase in
/-- Counting an edge in a window leaves the phase (R39, R41). -/
theorem countInWindow_phase (job : Job) (a : Arrival) (c : Context) : (countInWindow job a c).phase = c.phase := by
  unfold countInWindow
  (repeat' split) <;> rfl

theorem windowArrival_keeps (j : SlotId) (a : Arrival) : s.Keeps (windowArrival l j c a s) := by
  unfold windowArrival
  simp only
  split
  · split
    · refine (setContext_keeps (fun _ => ⟨c, hctx, hphase⟩) ?_).trans (takeStart_keeps _)
      rw [countInWindow_phase]
      exact (nomatch ·)
    · exact .refl s
  · refine setContext_keeps (fun _ => ⟨c, hctx, hphase⟩) ?_
    rw [countInWindow_phase]
    exact hphase
  · exact .refl s

end

theorem arrivalAtContext_keeps (l src : LaneId) (a : Arrival) : s.Keeps (arrivalAtContext l src a s) := by
  unfold arrivalAtContext
  split
  next c j hctx _ =>
    split
    · exact .refl s
    next htaken =>
      have hphase := (not_or.mp htaken).1
      split
      · exact widthArrival_keeps hctx hphase _ _
      · exact cyclesArrival_keeps hctx hphase _ _
      · exact spanArrival_keeps hctx hphase _ _ _
      · exact windowArrival_keeps hctx hphase _ _
      · exact windowArrival_keeps hctx hphase _ _
  · exact .refl s

theorem arrivalNow_keeps (l : LaneId) (a : Arrival) : s.Keeps (arrivalNow l a s) := by
  unfold arrivalNow
  split
  · exact .refl s
  · exact arrivalAtContext_keeps _ _ _

theorem takeAligned_keeps (l : LaneId) : s.Keeps (takeAligned l s) := by
  unfold takeAligned
  split
  next c j hctx _ =>
    split
    · exact .refl s
    next src a rest halignment =>
      split
      · have hset : s.Keeps (setContext l { c with alignment := rest } s) := by
          refine modLane_keeps (.of_sound rfl rfl fun hs => ?_)
          have hphase := hs.not_held hctx (.inr (by simp [halignment]))
          refine ⟨hs.exclusive, ?_, hs.asking, fun c' hc' hheld => ?_, fun hhold => absurd (hs.holding hhold c hctx) hphase⟩
          · rw [← hs.context, hctx]; rfl
          · obtain rfl := Option.some.inj hc'
            exact absurd hheld hphase
        simp only
        split
        · exact (hset.trans (takeExpiriesBefore_keeps l _)).trans (arrivalAtContext_keeps _ _ _)
        · exact (hset.trans (takeExpiriesBefore_keeps l _)).trans (arrivalNow_keeps _ _)
      · exact .refl s
  · exact .refl s

theorem takeAlignedUpTo_keeps (k : Nat) (l : LaneId) : ∀ s : State, s.Keeps (takeAlignedUpTo k l s) := by
  induction k with
  | zero => exact .refl
  | succ k ih => exact fun s => (takeAligned_keeps l).trans (ih _)

theorem takeArrival_keeps (l : LaneId) (a : Arrival) : s.Keeps (takeArrival l a s) := by
  unfold takeArrival
  split
  · exact .refl s
  · split
    next c j hctx _ =>
      split
      · exact .refl s
      next htaken =>
        have hphase := (not_or.mp htaken).1
        split
        · have hset := setContext_keeps (c := { c with alignment := insertAligned l a c.alignment })
            (fun _ => ⟨c, hctx, hphase⟩) hphase
          simp only
          split
          · exact hset.trans (takeAlignedUpTo_keeps _ _ _)
          · exact hset
        · exact (takeExpiriesBefore_keeps _ _).trans (arrivalNow_keeps _ _)
    · exact .refl s

theorem takeStartLimit_keeps (j : SlotId) : s.Keeps (takeStartLimit j s) := by
  unfold takeStartLimit
  split
  · exact .refl s
  · split
    · exact endPending_keeps _ _ _
    · exact endActive_keeps _ _ _
    · exact .refl s

theorem takeCoalescing_keeps (n : RingId) : s.Keeps (takeCoalescing n s) := by
  unfold takeCoalescing
  split
  · exact (modPoster_keeps fun h => h.of_unsignalled h.sound.count.1).trans (requestMessage_keeps n)
  · exact .refl s

/-! ### Dispatched entries -/

/-- An accepted offer finds room in the queue and a tag that no live job has (R48, R50). -/
theorem acceptOffer_keeps {r : RingId} (j : SlotId) {e : MeasEntry} {l : LaneId} (hr : r ≠ 0)
    (htag : (s.tagMap r).find? (fun t => t.tag == e.tag) = none) (hroom : (s.lane l).queue.length < Config.laneQueueDepth) :
    s.Keeps (acceptOffer r j e l s) := by
  have hslot : s.Keeps (s.modSlot j (acceptedSlot e l s.timebase)) := modSlot_keeps (.of_le (Nat.zero_le _) le_rfl)
  have hmap : s.Keeps ((s.modSlot j (acceptedSlot e l s.timebase)).setTagMap r
      ((s.modSlot j (acceptedSlot e l s.timebase)).tagMap r ++ [{ tag := e.tag, slot := j }])) := by
    refine hslot.trans (setTagMap_keeps (fun h => ?_) fun hzero => absurd hzero hr)
    rw [List.map_append]
    refine List.nodup_append.mpr ⟨h, List.nodup_singleton _, fun a ha b hb hab => ?_⟩
    obtain ⟨t, ht, rfl⟩ := List.mem_map.mp ha
    have hold := List.find?_eq_none.mp htag t ht
    simp_all
  unfold acceptOffer
  simp only
  split
  next halone =>
    refine (hmap.trans (modLane_keeps ⟨fun _ => ?_, id, fun hs => ?_⟩)).trans (laneAct_keeps l)
    · exact Nat.succ_le_succ (Nat.zero_le _)
    · exact ⟨hs.exclusive, hs.context, fun hphase => absurd rfl hphase, hs.held, hs.holding⟩
  next =>
    refine hmap.trans (modLane_keeps ⟨fun _ => ?_, id, fun hs => ⟨hs.exclusive, hs.context, fun hphase => ?_, hs.held, hs.holding⟩⟩)
    · simpa using hroom
    · exact ⟨by simp, (hs.asking hphase).2⟩

theorem offerCheck_eq_none {r : RingId} {x : Lane} (h : offerCheck r x = none) :
    (x.owner = none ∨ x.owner = some r) ∧ x.queue.length < Config.laneQueueDepth := by
  unfold offerCheck at h
  split at h
  · exact nomatch h
  next howner =>
    split at h
    · exact nomatch h
    next hroom => exact ⟨by simpa [or_iff_not_imp_left] using howner, Nat.lt_of_not_le hroom⟩

/-- A measurement entry that passes the checks of Dispatcher and Job Table is of a ring 1 to 7 and has a new tag
(R121). -/
theorem measurementCheck_eq_none {kind : MeasKind} {r : RingId} {e : MeasEntry} (h : measurementCheck kind r e s = none) :
    r ≠ 0 ∧ (s.tagMap r).find? (fun t => t.tag == e.tag) = none := by
  unfold measurementCheck at h
  split at h
  · exact nomatch h
  next hr =>
    refine ⟨hr, ?_⟩
    split at h
    · exact nomatch h
    · split at h
      · exact nomatch h
      · split at h
        · exact nomatch h
        · split at h
          · exact nomatch h
          next hlookup =>
            unfold lookupTag at hlookup
            rw [if_neg hr] at hlookup
            split at hlookup
            next t _ => exact absurd rfl (hlookup t.slot)
            next hnone => exact hnone

theorem dispatchMeasurement_keeps (kind : MeasKind) (e : MeasEntry) (r : RingId) (j : SlotId) :
    s.Keeps (dispatchMeasurement kind e r j s) := by
  unfold dispatchMeasurement
  split
  · exact answer_keeps _ _ _
  next hcheck =>
    split
    · exact answer_keeps _ _ _
    · split
      · exact answer_keeps _ _ _
      next hoffer =>
        obtain ⟨hr, htag⟩ := measurementCheck_eq_none hcheck
        exact acceptOffer_keeps j hr htag (offerCheck_eq_none hoffer).2

theorem appendBuffer_keeps (b : Buffer) {x : Slot} (h : x.queued.length < Config.queuedBufferDepth) :
    x.Keeps (appendBuffer b x) := by
  unfold appendBuffer
  split
  · exact .of_fields rfl rfl
  · exact ⟨fun _ => by simpa using h, id⟩

theorem dispatchAddBuffer_keeps (e : AddBufferEntry) (r : RingId) (j : SlotId) :
    s.Keeps (dispatchAddBuffer e r j s) := by
  unfold dispatchAddBuffer
  split
  · exact answer_keeps _ _ _
  · split
    · exact answer_keeps _ _ _
    · split
      · exact answer_keeps _ _ _
      · split
        · exact answer_keeps _ _ _
        · split
          · exact answer_keeps _ _ _
          next hroom => exact (modSlot_keeps (appendBuffer_keeps _ (Nat.lt_of_not_le hroom))).trans (answer_keeps _ _ _)

/-! ### Completions -/

theorem lowerHold_keeps (h : SlotId) : s.Keeps (lowerHold h s) := by
  unfold lowerHold
  split
  · split
    · exact answer_keeps _ _ _
    · exact modSlot_keeps (.of_fields rfl rfl)
  · exact .refl s

theorem clearMarks_keeps (l : LaneId) (gone : List ResultRecord) : s.Keeps (clearMarks l gone s) := by
  unfold clearMarks
  exact (modLane_keeps (.of_fields rfl rfl rfl rfl rfl rfl rfl)).trans
    (.foldl _ (fun s (m : DrainMark) => lowerHold_keeps m.holder) _ _)

theorem dropOldest_keeps (x : Slot) (landed : BitVec 16) (retired : BitVec 32) :
    x.Keeps { dropOldest x with landed := landed, buffersRetired := retired } := by
  unfold dropOldest
  split
  · exact .of_fields rfl rfl
  · exact .of_le (by simp) le_rfl

theorem landRecord_keeps (j : SlotId) : s.Keeps (landRecord j s) := by
  have hland : s.Keeps (s.modSlot j fun x =>
      { x with written := x.written + 1, landed := x.landed + 1, outstanding := x.outstanding - 1 }) :=
    modSlot_keeps (.of_fields rfl rfl)
  unfold landRecord
  simp only
  split
  · exact hland
  · split
    · exact (hland.trans (modSlot_keeps (dropOldest_keeps _ _ _))).trans (reportRetirement_keeps _ _)
    · exact hland

theorem takeRecordCompletion_keeps (l : LaneId) : s.Keeps (takeRecordCompletion l s) := by
  unfold takeRecordCompletion
  split
  · exact .refl s
  · have hslot : s.Keeps (s.modLane l fun x => { x with writeSlot := none }) :=
      modLane_keeps (.of_fields rfl rfl rfl rfl rfl rfl rfl)
    simp only
    split
    · exact ((hslot.trans (landRecord_keeps _)).trans (clearMarks_keeps _ _)).trans (finishDraining_keeps _)
    · exact hslot.trans (clearMarks_keeps _ _)

theorem takeRecordFault_keeps (l : LaneId) : s.Keeps (takeRecordFault l s) := by
  unfold takeRecordFault
  split
  · exact .refl s
  next r _ =>
    have hgone : s.Keeps (s.modLane l fun x =>
        { x with writeSlot := none, fifo := x.fifo.filter fun q => !(q.slot == r.slot) }) :=
      modLane_keeps ⟨id, (List.length_filter_le _ _).trans, fun hs =>
        ⟨hs.exclusive, hs.context, hs.asking, hs.held, hs.holding⟩⟩
    simp only
    split
    · have hmarks := (hgone.trans (modSlot_keeps (j := r.slot)
        (f := countDiscarded (r :: (s.lane l).fifo.filter fun q => q.slot == r.slot).length) (.of_fields rfl rfl))).trans
        (clearMarks_keeps l (r :: (s.lane l).fifo.filter fun q => q.slot == r.slot))
      split
      · exact hmarks.trans (endActive_keeps _ _ _)
      · exact hmarks.trans (finishDraining_keeps _)
    · exact hgone.trans (clearMarks_keeps _ _)

theorem takeReportCompletion_keeps (n : RingId) : s.Keeps (takeReportCompletion n s) := by
  unfold takeReportCompletion
  split
  · exact .refl s
  · have hposted : s.Keeps (s.modPoster n fun p =>
        { p with inFlight := none, tail := (p.tail + 1) % p.size, sequence := p.sequence + 1 }) :=
      modPoster_keeps fun h => h.of_completion _
    simp only
    split
    · have hevent {u : State} : u.Keeps { u with events := u.events.tail } :=
        { State.Keeps.refl u with events := fun h => (List.tail_sublist _).length_le.trans h }
      exact (hposted.trans hevent).trans (countPosted_keeps n)
    · exact (hposted.trans (dropHead_keeps n)).trans (countPosted_keeps n)

theorem takeReportFault_keeps (n : RingId) : s.Keeps (takeReportFault n s) := by
  unfold takeReportFault
  split
  · exact .refl s
  next hwrite =>
    exact ((modPoster_keeps fun h => h.of_fault (by simp [hwrite])).trans (dropHeads_keeps _ _ _)).trans
      (raiseEvent_keeps _)

/-! ### Control requests -/

/-- The open-ended sizes of R149, R152 and R177. -/
theorem sizeValid_iff (n : Nat) : sizeValid n = true ↔ Config.ringSizeMin ≤ n ∧ n ≤ Config.ringSizeMax := by
  simp [sizeValid]

theorem openReportRingCheck_eq_ok {e : OpenReportRingEntry} {n : RingId} (h : openReportRingCheck e s = .ok n) :
    sizeValid e.size.toNat = true ∧ 1 ≤ e.coalescingCount.toNat ∧ e.coalescingCount.toNat ≤ 64 := by
  unfold openReportRingCheck at h
  split at h
  · exact nomatch h
  · split at h
    · exact nomatch h
    · split at h
      · exact nomatch h
      · split at h
        · exact nomatch h
        next hsize =>
          split at h
          · exact nomatch h
          · split at h
            · exact nomatch h
            next hcount => exact ⟨by simpa using hsize, by omega⟩

theorem openReportRing_keeps (e : OpenReportRingEntry) (j : SlotId) : s.Keeps (openReportRing e j s) := by
  unfold openReportRing
  split
  · exact answer_keeps _ _ _
  next n hcheck =>
    obtain ⟨hsize, hcount⟩ := openReportRingCheck_eq_ok hcheck
    obtain ⟨hmin, hmax⟩ := (sizeValid_iff _).mp hsize
    have hpos : 0 < e.size.toNat := Nat.lt_of_lt_of_le (by decide) hmin
    refine (modPoster_keeps fun _ => ⟨⟨fun _ => ⟨hmin, hmax, hpos, hpos⟩, hcount, ?_, ?_⟩, fun _ => rfl⟩).trans
      (answer_keeps _ _ _)
    · exact hcount.1
    · exact Nat.le_of_lt_succ e.coalescingTime.isLt

theorem closeReportRing_keeps (e : CloseRingEntry) (j : SlotId) : s.Keeps (closeReportRing e j s) := by
  unfold closeReportRing
  split
  · exact answer_keeps _ _ _
  · refine (modPoster_keeps fun h => ⟨⟨fun hclosed => absurd rfl hclosed, h.sound.count, ?_, h.sound.time⟩,
      fun hwrite => absurd rfl hwrite⟩).trans (answer_keeps _ _ _)
    exact h.sound.count.1

theorem openJobRingCheck_eq_ok {e : OpenJobRingEntry} {p : RingId × RingId} (h : openJobRingCheck e s = .ok p) :
    sizeValid e.size.toNat = true ∧ 1 ≤ e.weight.toNat ∧ e.weight.toNat ≤ 16 := by
  unfold openJobRingCheck at h
  split at h
  · exact nomatch h
  · split at h
    · exact nomatch h
    · split at h
      · exact nomatch h
      · split at h
        · exact nomatch h
        next hsize =>
          split at h
          · exact nomatch h
          · split at h
            · exact nomatch h
            next hweight => exact ⟨by simpa using hsize, by omega⟩

theorem openJobRing_keeps (e : OpenJobRingEntry) (j : SlotId) : s.Keeps (openJobRing e j s) := by
  unfold openJobRing
  split
  · exact answer_keeps _ _ _
  next r n hcheck =>
    obtain ⟨hsize, hweight⟩ := openJobRingCheck_eq_ok hcheck
    obtain ⟨hmin, hmax⟩ := (sizeValid_iff _).mp hsize
    have hpos : 0 < e.size.toNat := Nat.lt_of_lt_of_le (by decide) hmin
    exact (modJobRing_keeps fun _ => ⟨fun _ => ⟨hmin, hmax, hpos, hpos⟩, hweight, Nat.zero_le _⟩).trans
      (answer_keeps _ _ _)

theorem closePending_keeps (r : RingId) (j : SlotId) : s.Keeps (closePending r j s) := by
  unfold closePending
  split
  · exact .refl s
  · split
    · exact (detachPending_keeps _ _ _).trans (finishDraining_keeps _)
    · exact .refl s

theorem closeActive_keeps (r : RingId) (j : SlotId) : s.Keeps (closeActive r j s) := by
  unfold closeActive
  split
  · exact .refl s
  · split
    · exact (detachActive_keeps _ _ _).trans (finishDraining_keeps _)
    · exact .refl s

theorem releaseClaims_keeps (r : RingId) : s.Keeps (releaseClaims r s) := by
  refine .foldl _ (fun s l => ?_) _ s
  split
  · exact modLane_keeps (.of_fields rfl rfl rfl rfl rfl rfl rfl)
  · exact .refl s

theorem closeRingWork_keeps (r : RingId) (h : (s.jobRing r).state ≠ .closed) : s.Keeps (closeRingWork r s) := by
  unfold closeRingWork changedLanesAct
  simp only
  refine State.Keeps.trans ?_ (.foldl _ (fun s l => laneAct_keeps l) _ _)
  refine State.Keeps.trans ?_ (releaseClaims_keeps r)
  refine State.Keeps.trans ?_ (.foldl _ (fun s j => closeActive_keeps r j) _ _)
  refine State.Keeps.trans ?_ (.foldl _ (fun s j => closePending_keeps r j) _ _)
  exact modJobRing_keeps fun hq => ⟨fun _ => hq.indices h, hq.weight, hq.credit⟩

theorem closeJobRingCheck_eq_ok {e : CloseRingEntry} {r : RingId} (h : closeJobRingCheck e s = .ok r) :
    ioRingOf e.id = some r ∧ ((s.jobRing r).state = .open ∨ (s.jobRing r).state = .faulted) := by
  unfold closeJobRingCheck at h
  split at h
  · exact nomatch h
  next hring =>
    split at h
    next hstate => cases h; exact ⟨hring, hstate⟩
    · exact nomatch h

theorem closeJobRing_keeps (e : CloseRingEntry) (j : SlotId) : s.Keeps (closeJobRing e j s) := by
  unfold closeJobRing
  split
  · exact answer_keeps _ _ _
  next r hcheck =>
    have hstate := (closeJobRingCheck_eq_ok hcheck).2
    have hwork := closeRingWork_keeps (s := s) r (by rintro h; simp [h] at hstate)
    simp only
    generalize closeRingWork r s = u at hwork ⊢
    split
    · exact hwork.trans (completeClose_keeps _ _ _ _)
    · exact (hwork.trans (modSlot_keeps (.of_fields rfl rfl))).trans
        (modJobRing_keeps fun h => ⟨h.indices, h.weight, h.credit⟩)

theorem setLane_entry_keeps (e : SetLaneEntry) (j : SlotId) : s.Keeps (setLane e j s) := by
  unfold setLane
  split
  · exact answer_keeps _ _ _
  · exact (modLane_keeps (.of_fields rfl rfl rfl rfl rfl rfl rfl)).trans (answer_keeps _ _ _)

theorem claimLane_keeps (e : ClaimLaneEntry) (j : SlotId) : s.Keeps (claimLane e j s) := by
  unfold claimLane
  split
  · exact answer_keeps _ _ _
  · exact (modLane_keeps (.of_fields rfl rfl rfl rfl rfl rfl rfl)).trans (answer_keeps _ _ _)

theorem setMark_keeps (j : SlotId) (l : LaneId) : s.Keeps (setMark j l s) := by
  unfold setMark
  split
  · exact .refl s
  · exact modLane_keeps (.of_fields rfl rfl rfl rfl rfl rfl rfl)

/-- A context that is held, with or without the partner-held mark, has nothing pending (R43, R90). -/
theorem holdContexts_keeps (l : LaneId) {f : Context → Context}
    (hf : ∀ c, (f c).phase = .held ∧ (f c).pending = none ∧ (f c).alignment = []) :
    s.Keeps (s.modLane l fun x => { x with ctx := x.ctx.map f }) := by
  refine modLane_keeps (.of_sound rfl rfl fun hs => ⟨hs.exclusive, ?_, hs.asking, fun c hc _ => ?_, fun _ c hc => ?_⟩)
  · rw [← hs.context]; exact Option.isSome_map
  · obtain ⟨c', -, rfl⟩ := Option.map_eq_some_iff.mp hc
    exact (hf c').2
  · obtain ⟨c', -, rfl⟩ := Option.map_eq_some_iff.mp hc
    exact (hf c').1

theorem holdNotice_keeps (p : LaneId) (loan : Loan) : s.Keeps (holdNotice p loan s) := by
  unfold holdNotice
  simp only
  split
  · exact holdContexts_keeps _ fun _ => ⟨rfl, rfl, rfl⟩
  · split
    · exact modLane_keeps (.of_fields rfl rfl rfl rfl rfl rfl rfl)
    · exact .refl s

/-- The state in which a head asks no more, but for the loan messages. -/
theorem withdrawHead_eq (s : State) (l : LaneId) : ∃ q,
    withdrawHead l s =
      { s.modLane l (fun x => { x with loanPhase := .idle, partnerMark := false }) with loanMsgs := q } := by
  simp only [withdrawHead]
  split
  · exact ⟨_, rfl⟩
  · split <;> exact ⟨_, rfl⟩

theorem holdLanes_keeps (j : SlotId) (l : LaneId) : s.Keeps (holdLanes j l s) := by
  have hheld : s.Keeps (withdrawHead l (holdLaneContext l (s.modLane l fun x => { x with hold := true }))) := by
    obtain ⟨q, hq⟩ := withdrawHead_eq (holdLaneContext l (s.modLane l fun x => { x with hold := true })) l
    rw [hq, holdLaneContext, State.modLane_modLane, State.modLane_modLane]
    have hlane : s.Keeps (s.modLane l fun x =>
        { x with hold := true, ctx := x.ctx.map holdContext, loanPhase := .idle, partnerMark := false }) := ?_
    · exact hlane.then_same rfl rfl rfl rfl rfl rfl rfl rfl
    refine modLane_keeps (.of_sound rfl rfl fun hs =>
      ⟨hs.exclusive, ?_, fun hphase => absurd rfl hphase, fun c hc _ => ?_, fun _ c hc => ?_⟩)
    · rw [← hs.context]; exact Option.isSome_map
    · obtain ⟨c', -, rfl⟩ := Option.map_eq_some_iff.mp hc
      exact ⟨rfl, rfl⟩
    · obtain ⟨c', -, rfl⟩ := Option.map_eq_some_iff.mp hc
      rfl
  unfold holdLanes
  simp only
  refine State.Keeps.trans ?_ (.foldl _ (fun s m => setMark_keeps j m) _ _)
  split
  · exact hheld
  · exact hheld.trans (holdNotice_keeps _ _)

theorem holdLane_keeps (e : LaneEntry) (j : SlotId) : s.Keeps (holdLane e j s) := by
  unfold holdLane
  split
  · exact answer_keeps _ _ _
  · split
    · exact answer_keeps _ _ _
    · simp only
      split
      · exact (holdLanes_keeps _ _).trans (answer_keeps _ _ _)
      · exact (holdLanes_keeps _ _).trans (modSlot_keeps (.of_fields rfl rfl))

theorem resumeLane_keeps {l : LaneId} (h : (s.lane l).hold = false) : s.Keeps (resumeLane l s) := by
  unfold resumeLane
  split
  · exact .refl s
  · refine modLane_keeps (.of_sound rfl rfl fun hs => ⟨hs.exclusive, ?_, hs.asking, fun c hc hheld => ?_,
      fun hhold => (nomatch h.symm.trans hhold)⟩)
    · rw [← hs.context]; exact Option.isSome_map
    · obtain ⟨c', -, rfl⟩ := Option.map_eq_some_iff.mp hc
      exact absurd hheld (beginContext_phase _ _ _)

theorem releaseNotice_keeps (p : LaneId) (loan : Loan) : s.Keeps (releaseNotice p loan s) := by
  unfold releaseNotice
  simp only
  split
  · refine modLane_keeps (.of_sound rfl rfl fun hs => ⟨hs.exclusive, ?_, hs.asking, fun c hc => ?_, fun hhold c hc => ?_⟩)
    · rw [← hs.context]; exact Option.isSome_map
    · obtain ⟨c', hc', rfl⟩ := Option.map_eq_some_iff.mp hc
      exact hs.held c' hc'
    · obtain ⟨c', hc', rfl⟩ := Option.map_eq_some_iff.mp hc
      exact hs.holding hhold c' hc'
  · split
    · exact modLane_keeps (.of_fields rfl rfl rfl rfl rfl rfl rfl)
    · exact .refl s

theorem clearHold_keeps (l : LaneId) : s.Keeps (clearHold l s) := by
  have hflag : s.Keeps (s.modLane l fun x => { x with hold := false }) :=
    modLane_keeps (.of_sound rfl rfl fun hs => ⟨hs.exclusive, hs.context,
      fun hphase => ⟨(hs.asking hphase).1, (hs.asking hphase).2.1, (hs.asking hphase).2.2.1, rfl⟩, hs.held, (nomatch ·)⟩)
  unfold clearHold
  simp only
  split
  · exact hflag
  · exact hflag.trans (releaseNotice_keeps _ _)

theorem hold_of_canResume {l : LaneId} (h : canResume s l = true) : (s.lane l).hold = false := by
  simp only [canResume, Bool.and_eq_true, Bool.not_eq_true'] at h
  exact h.1.1

theorem releaseLane_keeps (e : LaneEntry) (j : SlotId) : s.Keeps (releaseLane e j s) := by
  unfold releaseLane
  split
  · exact answer_keeps _ _ _
  · split
    · simp only
      refine State.Keeps.trans ?_ (answer_keeps _ _ _)
      refine State.Keeps.trans ?_ (laneAct_keeps _)
      split
      · exact clearHold_keeps _
      next hlane =>
        obtain ⟨-, hresume⟩ := Option.filter_eq_some_iff.mp hlane
        exact (clearHold_keeps _).trans (resumeLane_keeps (hold_of_canResume hresume))
    · exact answer_keeps _ _ _

theorem awaitTarget_keeps (e : JobNameEntry) (j t : SlotId) : s.Keeps (awaitTarget e j t s) :=
  (modSlot_keeps (.of_fields rfl rfl)).trans (modSlot_keeps (.of_fields rfl rfl))

theorem cancelJob_keeps (e : JobNameEntry) (j : SlotId) : s.Keeps (cancelJob e j s) := by
  unfold cancelJob
  split
  · exact answer_keeps _ _ _
  · exact answer_keeps _ _ _
  · simp only
    split
    · exact (awaitTarget_keeps _ _ _).trans (endPending_keeps _ _ _)
    · exact (awaitTarget_keeps _ _ _).trans (endActive_keeps _ _ _)
    · exact answer_keeps _ _ _

theorem peekJob_keeps (e : JobNameEntry) (j : SlotId) : s.Keeps (peekJob e j s) := by
  unfold peekJob
  split <;> exact answer_keeps _ _ _

theorem ControlAct.keeps {act : SlotId → State → State} (h : ControlAct act) (j : SlotId) : s.Keeps (act j s) := by
  cases h with
  | openReportRing e => exact openReportRing_keeps e j
  | closeReportRing e => exact closeReportRing_keeps e j
  | openJobRing e => exact openJobRing_keeps e j
  | closeJobRing e => exact closeJobRing_keeps e j
  | setLane e => exact setLane_entry_keeps e j
  | claimLane e => exact claimLane_keeps e j
  | holdLane e => exact holdLane_keeps e j
  | releaseLane e => exact releaseLane_keeps e j
  | cancelJob e => exact cancelJob_keeps e j
  | peekJob e => exact peekJob_keeps e j

theorem EntryAct.keeps {act : RingId → SlotId → State → State} (h : EntryAct act) (r : RingId) (j : SlotId) :
    s.Keeps (act r j s) := by
  cases h with
  | measurement kind e => exact dispatchMeasurement_keeps kind e r j
  | addBuffer e => exact dispatchAddBuffer_keeps e r j
  | undefined => exact answer_keeps _ _ _
  | control tag zeros h =>
    unfold controlEntry
    split
    · exact answer_keeps _ _ _
    · split
      · exact answer_keeps _ _ _
      · exact h.keeps j

theorem takeEntry_keeps (e : Entry) {act : RingId → SlotId → State → State} (h : EntryAct act) :
    s.Keeps (takeEntry e act s) := by
  unfold takeEntry
  split
  · exact .refl s
  next f _ =>
    split
    next hopen =>
      have hfetch : s.Keeps { s with fetch := none } := .of_same rfl rfl rfl rfl rfl rfl rfl rfl
      refine ((hfetch.trans (modJobRing_keeps fun hq => ⟨fun hstate => ?_, hq.weight, hq.credit⟩)).trans
        (modSlot_keeps (.of_fields rfl rfl))).trans (h.keeps _ _)
      obtain ⟨hmin, hmax, hhead, htail⟩ := hq.indices hstate
      exact ⟨hmin, hmax, Nat.mod_lt _ (Nat.zero_lt_of_lt hhead), htail⟩
    next => exact .refl s

theorem takeFetchFault_keeps : s.Keeps (takeFetchFault s) := by
  unfold takeFetchFault
  split
  · exact .refl s
  next f _ =>
    split
    next hopen =>
      have hfetch : s.Keeps { s with fetch := none } := .of_same rfl rfl rfl rfl rfl rfl rfl rfl
      refine ((hfetch.trans (modJobRing_keeps fun hq => ⟨fun _ => hq.indices ?_, hq.weight, hq.credit⟩)).trans
        (modSlot_keeps (.of_le le_rfl (Nat.zero_le _)))).trans (raiseEvent_keeps _)
      exact fun hclosed => (nomatch hopen.symm.trans hclosed)
    next => exact .refl s

/-! ### The decisions that close an event -/

theorem movePointer_keeps (r : RingId) : s.Keeps (movePointer r s) := by
  unfold movePointer
  split
  · exact .refl s
  next hr =>
    split
    · exact .refl s
    · have hcredit : s.Keeps ((s.modJobRing s.pointer fun q => { q with credit := 0 }).modJobRing r
          fun q => { q with credit := q.weight }) :=
        (modJobRing_keeps fun h => ⟨h.indices, h.weight, Nat.zero_le _⟩).trans
          (modJobRing_keeps fun h => ⟨h.indices, h.weight, le_rfl⟩)
      exact hcredit.trans { State.Keeps.refl _ with pointer := fun _ => hr }

theorem issueFetch_keeps (r : RingId) (j : SlotId) : s.Keeps (issueFetch r j s) := by
  have hslot : s.Keeps (s.setSlot j { state := .fetching, ring := r }) :=
    modSlot_keeps (f := fun _ => { state := .fetching, ring := r }) (.of_le (Nat.zero_le _) (Nat.zero_le _))
  unfold issueFetch
  simp only
  split
  · exact hslot.then_same rfl rfl rfl rfl rfl rfl rfl rfl
  · have hcredit {u : State} : u.Keeps (u.modJobRing r fun q => { q with credit := q.credit - 1 }) :=
      modJobRing_keeps fun h => ⟨h.indices, h.weight, (Nat.sub_le _ _).trans h.credit⟩
    exact (hslot.trans hcredit).then_same rfl rfl rfl rfl rfl rfl rfl rfl

theorem fetchDecision_keeps : s.Keeps (fetchDecision s) := by
  unfold fetchDecision
  split
  · split
    · exact (movePointer_keeps _).trans (issueFetch_keeps _ _)
    · exact .refl s
  · exact .refl s

theorem grantLane_keeps (l : LaneId) : s.Keeps (grantLane l s) := by
  unfold grantLane
  split
  · exact .refl s
  next r rest hfifo =>
    have hlane : s.Keeps (s.modLane l fun x => { x with fifo := rest, writeSlot := some r }) := by
      refine modLane_keeps ⟨id, fun hf => ?_, fun hs => ⟨hs.exclusive, hs.context, hs.asking, hs.held, hs.holding⟩⟩
      rw [hfifo] at hf
      exact Nat.le_of_succ_le hf
    exact hlane.then_same rfl rfl rfl rfl rfl rfl rfl rfl

/-- A write of an OPEN ring is issued (R134, R135). -/
theorem setInFlight_keeps {n : RingId} (hopen : (s.poster n).state = .open) (src : ReportSource) :
    s.Keeps (s.setPoster n { s.poster n with inFlight := some src }) :=
  setPoster_keeps fun h => ⟨⟨h.sound.indices, h.sound.count, h.sound.unsignalled, h.sound.time⟩, fun _ => hopen⟩

theorem grantPoster_keeps {n : RingId} (hopen : (s.poster n).state = .open) : s.Keeps (grantPoster n s) := by
  unfold grantPoster
  split
  next hevents =>
    have hn : n = 0 := by
      by_contra hn
      simp [hn] at hevents
    subst hn
    exact (setInFlight_keeps hopen .event).trans (.of_same rfl rfl rfl rfl rfl rfl rfl rfl)
  · split
    · exact .refl s
    next j _ _ =>
      split
      · exact .refl s
      next r others hreports =>
        unfold issueReport
        refine State.Keeps.then_same (State.Keeps.trans (modSlot_keeps (.of_le le_rfl ?_))
          (setInFlight_keeps (by exact hopen) (.slot j))) rfl rfl rfl rfl rfl rfl rfl rfl
        rw [hreports, List.countP_cons_of_neg (by simp [Report.isWaitingProgress])]
        exact (List.sublist_cons_self _ _).countP_le

theorem grantGenerator_keeps : s.Keeps (grantGenerator s) := by
  unfold grantGenerator
  split
  · exact .refl s
  next v rest hmessages =>
    refine { State.Keeps.refl s with messages := fun h => ?_ }
    rw [hmessages] at h
    exact h.of_cons

theorem posterRequests_open {n : RingId} (h : posterRequests s n = true) : (s.poster n).state = .open := by
  simp only [posterRequests, Bool.and_eq_true, beq_iff_eq] at h
  exact h.1.1.1

theorem portDecision_keeps : s.Keeps (portDecision s) := by
  unfold portDecision
  split
  · split
    · exact .refl s
    next k hk =>
      have hstands := List.find?_some hk
      have hposition : s.Keeps { s with port := { s.port with position := k } } :=
        .of_same rfl rfl rfl rfl rfl rfl rfl rfl
      unfold requestStands at hstands
      unfold grantAt
      simp only
      split
      · exact hposition.trans (grantLane_keeps _)
      next hlane =>
        rw [dif_neg hlane] at hstands
        split
        next hposter =>
          rw [dif_pos hposter] at hstands
          exact hposition.trans (grantPoster_keeps (by exact posterRequests_open hstands))
        next => exact hposition.trans grantGenerator_keeps
  · exact .refl s

theorem settle_keeps : s.Keeps (settle s) := fetchDecision_keeps.trans portDecision_keeps

/-! ### The controller -/

theorem clearCredits_keeps : s.Keeps (clearCredits s) :=
  .foldl _ (fun _ _ => modJobRing_keeps fun h => ⟨h.indices, h.weight, Nat.zero_le _⟩) _ s

/-- Rings 0 open with sizes that the configuration holds to 2 to 4096 (R106, R126, R177). -/
theorem takeStartUp_keeps (h : configValid s = true) : s.Keeps (takeStartUp s) := by
  obtain ⟨⟨hjobMin, hjobMax⟩, ⟨hrptMin, hrptMax⟩, -, -⟩ := configValid_iff.mp h
  have hrings : s.Keeps ((s.setJobRing 0 (startedJobRing s)).setPoster 0 (startedPoster s)) := by
    refine State.Keeps.trans (modJobRing_keeps (f := fun _ => startedJobRing s) fun hq => ?_) (setPoster_keeps fun _ => ?_)
    · exact ⟨fun _ => ⟨hjobMin, hjobMax, Nat.lt_of_lt_of_le Nat.zero_lt_two hjobMin,
        Nat.lt_of_lt_of_le Nat.zero_lt_two hjobMin⟩, hq.weight, hq.credit⟩
    · exact ⟨⟨fun _ => ⟨hrptMin, hrptMax, Nat.lt_of_lt_of_le Nat.zero_lt_two hrptMin,
        Nat.lt_of_lt_of_le Nat.zero_lt_two hrptMin⟩, ⟨le_rfl, Nat.le_add_left 1 63⟩, Nat.one_pos, Nat.zero_le _⟩, fun _ => rfl⟩
  have hcredits := hrings.trans clearCredits_keeps
  unfold takeStartUp
  generalize clearCredits _ = u at hcredits ⊢
  exact hcredits.trans { State.Keeps.refl u with pointer := fun _ h => nomatch h }

section
variable {t : State} (h : t.Dropped)
include h

theorem State.Dropped.slot (j : SlotId) : t.slot j = {} := by simp [State.slot, h.slots, State.reset]

theorem State.Dropped.tagMap (r : RingId) : t.tagMap r = [] := by simp [State.tagMap, h.tagMaps, State.reset]

/-- What a stop leaves is within all bounds. -/
theorem State.Dropped.bounds : t.Bounded ∧ t.MessagesDistinct ∧ t.RingsSound ∧ t.WritesOpen := by
  refine ⟨⟨fun l => ?_, fun l => ?_, fun j => ?_, fun j => ?_, ?_⟩, ?_, ⟨fun r => ?_, fun n => ?_, ?_⟩, fun n hwrite => ?_⟩
  · rw [h.lanes l]; exact Nat.zero_le _
  · rw [h.lanes l]; exact Nat.zero_le _
  · rw [h.slot j]; exact Nat.zero_le _
  · rw [h.slot j]; exact Nat.zero_le _
  · rw [h.events]; exact Nat.zero_le _
  · unfold State.MessagesDistinct
    rw [h.messages]
    exact List.nodup_nil
  · rw [h.jobRing r]
    exact ⟨fun hopen => absurd rfl hopen, ⟨le_rfl, Nat.le_add_left 1 15⟩, Nat.zero_le _⟩
  · rw [h.poster n]
    exact ⟨fun hopen => absurd rfl hopen, ⟨le_rfl, Nat.le_add_left 1 63⟩, Nat.one_pos, Nat.zero_le _⟩
  · rw [h.pointer]; exact (nomatch ·)
  · rw [h.poster n] at hwrite; exact absurd rfl hwrite

theorem State.Dropped.lanesAndTags : t.LanesSound ∧ t.TagsSound := by
  refine ⟨fun l => ?_, fun r => ?_, h.tagMap 0⟩
  · rw [h.lanes l]
    exact ⟨(nomatch ·), rfl, fun hphase => absurd rfl hphase, fun _ hc => (nomatch hc), (nomatch ·)⟩
  · rw [h.tagMap r]; exact List.nodup_nil

theorem State.Dropped.keeps : s.Keeps t := by
  obtain ⟨⟨queues, fifos, buffers, progress, events⟩, messages, ⟨job, report, pointer⟩, writes⟩ := h.bounds
  obtain ⟨lanes, distinct, control⟩ := h.lanesAndTags
  exact ⟨fun l => ⟨fun _ => queues l, fun _ => fifos l, fun _ => lanes l⟩, fun j => ⟨fun _ => buffers j, fun _ => progress j⟩,
    fun r _ => job r, fun n _ => ⟨report n, writes n⟩, fun r _ => distinct r, fun _ => control, fun _ => events,
    fun _ => messages, fun _ => pointer⟩

end

theorem State.SameJobs.keeps {t : State} (h : s.SameJobs t) : s.Keeps t := by
  refine State.Keeps.trans (t := { s with lanes := t.lanes }) ?_
    (.of_same rfl h.slots h.jobRings h.posters h.tagMaps h.events h.messages h.pointer)
  refine { State.Keeps.refl s with lane := fun l => ?_ }
  have hl : State.lane { s with lanes := t.lanes } l = t.lane l := rfl
  rw [hl, h.lane l]
  exact .of_fields rfl rfl rfl rfl rfl rfl rfl

/-- Every move keeps depths, sound lanes, sound rings and tag maps. -/
theorem Move.keeps {t : State} (h : Move s t) : s.Keeps t := by
  cases h with
  | same h => exact h.keeps
  | dropped h => exact h.keeps
  | startUp valid => exact takeStartUp_keeps valid
  | sendPending => exact sendPendingMessages_keeps
  | settle => exact settle_keeps
  | arrival l a => exact takeArrival_keeps l a
  | aligned l => exact takeAligned_keeps l
  | expiry l => exact takeExpiry_keeps l
  | startLimit j => exact takeStartLimit_keeps j
  | coalescing n => exact takeCoalescing_keeps n
  | entry e h => exact takeEntry_keeps e h
  | fetchFault => exact takeFetchFault_keeps
  | recordCompletion l => exact takeRecordCompletion_keeps l
  | recordFault l => exact takeRecordFault_keeps l
  | reportCompletion n => exact takeReportCompletion_keeps n
  | reportFault n => exact takeReportFault_keeps n
  | loanRequest p loan => exact takeLoanRequest_keeps p loan
  | grant l p loan => exact takeGrant_keeps l p loan
  | defer l loan => exact takeDefer_keeps l loan
  | withdraw p loan => exact takeWithdraw_keeps p loan
  | loanReturn p loan => exact takeReturn_keeps p loan
  | placeOpen l p => exact takePlaceOpen_keeps l p
  | jobTail r state index =>
    refine modJobRing_keeps fun h => ⟨fun hstate => ?_, h.weight, h.credit⟩
    obtain ⟨hmin, hmax, hhead, -⟩ := h.indices hstate
    exact ⟨hmin, hmax, hhead, index⟩
  | rptHead n index =>
    refine modPoster_keeps fun h =>
      ⟨⟨fun hstate => ?_, h.sound.count, h.sound.unsignalled, h.sound.time⟩, h.writes⟩
    obtain ⟨hmin, hmax, -, htail⟩ := h.sound.indices hstate
    exact ⟨hmin, hmax, index, htail⟩
  | event e => exact raiseEvent_keeps e

end

/-! ### The statements -/

/-- The bounds of O55 are kept by a state that keeps each piece's. -/
theorem State.Keeps.bounds {s t : State} (h : s.Keeps t)
    (hs : s.Bounded ∧ s.MessagesDistinct ∧ s.RingsSound ∧ s.WritesOpen) :
    t.Bounded ∧ t.MessagesDistinct ∧ t.RingsSound ∧ t.WritesOpen := by
  obtain ⟨⟨queues, fifos, buffers, progress, events⟩, messages, ⟨job, report, pointer⟩, writes⟩ := hs
  have hgood (n : RingId) : (t.poster n).Good := h.poster n ⟨report n, writes n⟩
  exact ⟨⟨fun l => (h.lane l).queue (queues l), fun l => (h.lane l).fifo (fifos l), fun j => (h.slot j).queued (buffers j),
    fun j => (h.slot j).progress (progress j), h.events events⟩, h.messages messages,
    ⟨fun r => h.jobRing r (job r), fun n => (hgood n).sound, h.pointer pointer⟩, fun n => (hgood n).writes⟩

theorem State.Keeps.lanesAndTags {s t : State} (h : s.Keeps t) (hs : s.LanesSound ∧ s.TagsSound) :
    t.LanesSound ∧ t.TagsSound :=
  ⟨fun l => (h.lane l).sound (hs.1 l), fun r => h.tags r (hs.2.distinct r), h.control hs.2.control⟩

/-- Settles O55: each move of the blocks keeps the bounds of each piece. -/
theorem everyStepKeepsTheBounds : Obligations.EveryStepKeepsTheBounds := by
  unfold Obligations.EveryStepKeepsTheBounds
  exact fun s t hs hstep => step_keeps_of_moves (fun _ _ hmove => hmove.keeps.bounds) hs hstep

/-- Settles O56: each move of the blocks keeps every lane and tag map sound. -/
theorem everyStepKeepsLanesAndTagsSound : Obligations.EveryStepKeepsLanesAndTagsSound := by
  unfold Obligations.EveryStepKeepsLanesAndTagsSound
  exact fun s t hs hstep => step_keeps_of_moves (fun _ _ hmove => hmove.keeps.lanesAndTags) hs hstep

end Sys2Proof.Machine
end

section
/-! SUPPORT. Where the jobs stand, as a relation between two states (`State.KeepsPlaces`): an update that no place
depends on (`State.SamePlaces`), one that moves a single slot (`State.Relocates`), and one of a lane's records
(`State.CountsRecords`). Every change that a block makes to the places is one of the three. -/

namespace Sys2Proof.Machine

-- One proof at a time: every thread reserves memory of its own, and the check bounds the whole.
set_option Elab.async false

/-- The slot owes its FINAL (R65, R68). -/
def Slot.Owes (x : Slot) : Prop := ∃ r ∈ x.reports, r.isFinal = true

/-- Slot `y` says what slot `x` says of its job's place, and waits or owes no more than it. -/
structure Slot.SamePlace (x y : Slot) : Prop where
  state : y.state = x.state
  stagingLane : y.stagingLane = x.stagingLane
  outstanding : y.outstanding = x.outstanding
  wait : y.wait ≠ .none → x.wait ≠ .none
  owes : y.Owes → x.Owes

/-- Lane `y` has the queue, the active job and the records of lane `x`. -/
structure Lane.SamePlace (x y : Lane) : Prop where
  queue : y.queue = x.queue
  active : y.active = x.active
  records : y.records = x.records

theorem Slot.SamePlace.refl (x : Slot) : x.SamePlace x := ⟨rfl, rfl, rfl, id, id⟩

theorem Lane.SamePlace.refl (x : Lane) : x.SamePlace x := ⟨rfl, rfl, rfl⟩

/-- No place differs between the two states. -/
structure State.SamePlaces (s t : State) : Prop where
  fetch : t.fetch = s.fetch
  lane : ∀ l : LaneId, (s.lane l).SamePlace (t.lane l)
  slot : ∀ j : SlotId, (s.slot j).SamePlace (t.slot j)

/-- The job in slot `j` alone takes or leaves a place on lane `l`: `x` and `a` are lane and slot before, `y` and `b`
after; the records stay. -/
structure Relocation (l : LaneId) (j : SlotId) (x y : Lane) (a b : Slot) : Prop where
  queue : ∀ i : SlotId, i ≠ j → (i ∈ y.queue ↔ i ∈ x.queue)
  once : y.queue.Nodup
  active : ∀ i : SlotId, i ≠ j → (y.active = some i ↔ x.active = some i)
  records : y.records = x.records
  left : a.state = .pending ∨ a.state = .active → a.stagingLane = some l
  pending : j ∈ y.queue ↔ b.state = .pending
  running : y.active = some j ↔ b.state = .active
  taken : b.state = .pending ∨ b.state = .active → b.stagingLane = some l
  held : a.outstanding ≠ 0 → (b.state = .active ∨ b.state = .draining) ∧ b.stagingLane = a.stagingLane
  outstanding : b.outstanding = a.outstanding
  waiting : b.wait ≠ .none → b.state = .waiting
  owing : b.Owes → b.state = .posting

/-- The job in slot `j` takes or leaves a place on lane `l`, and nothing else differs in its places. -/
structure State.Relocates (s t : State) (l : LaneId) (j : SlotId) : Prop where
  fetch : ∀ f ∈ t.fetch, if f.slot = j then (t.slot j).state = .fetching else f ∈ s.fetch
  lanes : ∀ m : LaneId, m ≠ l → (s.lane m).SamePlace (t.lane m)
  slots : ∀ i : SlotId, i ≠ j → (s.slot i).SamePlace (t.slot i)
  move : Relocation l j (s.lane l) (t.lane l) (s.slot j) (t.slot j)

/-- The records of the job in slot `j` that stand on lane `l`, its staging lane, change, and its count with them. -/
structure State.CountsRecords (s t : State) (l : LaneId) (j : SlotId) : Prop where
  fetch : t.fetch = s.fetch
  lanes : ∀ m : LaneId, m ≠ l → (s.lane m).SamePlace (t.lane m)
  slots : ∀ i : SlotId, i ≠ j → (s.slot i).SamePlace (t.slot i)
  queue : (t.lane l).queue = (s.lane l).queue
  active : (t.lane l).active = (s.lane l).active
  state : (t.slot j).state = (s.slot j).state
  stagingLane : (t.slot j).stagingLane = (s.slot j).stagingLane
  wait : (t.slot j).wait ≠ .none → (s.slot j).wait ≠ .none
  owes : (t.slot j).Owes → (s.slot j).Owes
  home : ((s.slot j).state = .active ∨ (s.slot j).state = .draining) ∧ (s.slot j).stagingLane = some l
  others : (t.lane l).records.filter (fun r => r.slot != j) = (s.lane l).records.filter (fun r => r.slot != j)
  outstanding : (t.slot j).outstanding.toNat = (t.lane l).records.countP fun r => r.slot == j

section
variable {s t : State}

/-! ### What `outstanding` counts -/

/-- A count over the records of all lanes is the sum of the counts over each (R85). -/
theorem countP_records (s : State) (p : ResultRecord → Bool) :
    (allLanes.flatMap fun l => (s.lane l).records).countP p = (allLanes.map fun l => (s.lane l).records.countP p).sum := by
  rw [List.countP_flatMap]
  rfl

/-- A slot with nothing outstanding has no record on a lane, and conversely (R85). -/
theorem State.JobsPlaced.outstanding_eq_zero (h : s.JobsPlaced) (j : SlotId) :
    (s.slot j).outstanding = 0 ↔ ∀ l : LaneId, ∀ r ∈ (s.lane l).records, r.slot ≠ j := by
  have hcount := h.outstanding j
  have hzero : (s.slot j).outstanding = 0 ↔ (s.slot j).outstanding.toNat = 0 :=
    ⟨fun h => by rw [h]; rfl, fun h => BitVec.eq_of_toNat_eq h⟩
  rw [hzero, hcount, List.countP_eq_zero]
  simp only [allLanes, List.mem_flatMap, List.mem_finRange, true_and, beq_iff_eq]
  exact ⟨fun h l r hr => h r ⟨l, hr⟩, fun h r ⟨l, hr⟩ => h l r hr⟩

/-- A job outside ACTIVE and DRAINING has nothing outstanding (R70, R85). -/
theorem State.JobsPlaced.outstanding_of_state (h : s.JobsPlaced) {j : SlotId} (hactive : (s.slot j).state ≠ .active)
    (hdraining : (s.slot j).state ≠ .draining) : (s.slot j).outstanding = 0 :=
  (h.outstanding_eq_zero j).mpr fun l r hr hj => by
    obtain ⟨hstate, -⟩ := h.records l r hr
    rw [hj] at hstate
    exact hstate.elim hactive hdraining

/-- The records of a slot stand on its staging lane, so that lane's count is the slot's (R70, R85). -/
theorem State.JobsPlaced.outstanding_on (h : s.JobsPlaced) {j : SlotId} {l : LaneId}
    (hlane : (s.slot j).stagingLane = some l) :
    (s.slot j).outstanding.toNat = (s.lane l).records.countP fun r => r.slot == j := by
  rw [h.outstanding j, countP_records, List.sum_map_eq_nsmul_single l]
  · simp [allLanes, List.count_eq_one_of_mem (List.nodup_finRange 16) (List.mem_finRange l)]
  · intro m hm _
    refine List.countP_eq_zero.mpr fun r hr hj => hm ?_
    obtain ⟨-, hstaging⟩ := h.records m r hr
    rw [eq_of_beq hj, hlane] at hstaging
    exact (Option.some.inj hstaging).symm

/-! ### The three updates -/

theorem State.SamePlaces.placed (h : s.SamePlaces t) (hs : s.JobsPlaced) : t.JobsPlaced := by
  have hrecords : (allLanes.flatMap fun l => (t.lane l).records) = allLanes.flatMap fun l => (s.lane l).records := by
    simp only [(h.lane _).records]
  refine ⟨fun f hf => ?_, fun l j hj => ?_, fun l => ?_, fun l j hj => ?_, fun j hj => ?_, fun j hj => ?_, fun j hj => ?_,
    fun j hj => ?_, fun l r hr => ?_, fun j => ?_⟩
  · rw [(h.slot f.slot).state]; exact hs.fetching f (h.fetch ▸ hf)
  · rw [(h.slot j).state, (h.slot j).stagingLane]; exact hs.queued l j ((h.lane l).queue ▸ hj)
  · rw [(h.lane l).queue]; exact hs.once l
  · rw [(h.slot j).state, (h.slot j).stagingLane]; exact hs.running l j ((h.lane l).active ▸ hj)
  · obtain ⟨l, hlane, hqueue⟩ := hs.pending j ((h.slot j).state ▸ hj)
    exact ⟨l, (h.slot j).stagingLane.trans hlane, by rwa [(h.lane l).queue]⟩
  · obtain ⟨l, hlane, hactive⟩ := hs.active j ((h.slot j).state ▸ hj)
    exact ⟨l, (h.slot j).stagingLane.trans hlane, (h.lane l).active.trans hactive⟩
  · rw [(h.slot j).state]; exact hs.waiting j ((h.slot j).wait hj)
  · rw [(h.slot j).state]; exact hs.owing j ((h.slot j).owes hj)
  · rw [(h.slot r.slot).state, (h.slot r.slot).stagingLane]; exact hs.records l r ((h.lane l).records ▸ hr)
  · rw [hrecords, (h.slot j).outstanding]; exact hs.outstanding j

theorem State.Relocates.placed {l : LaneId} {j : SlotId} (h : s.Relocates t l j) (hs : s.JobsPlaced) :
    t.JobsPlaced := by
  -- Another job's place is as it was; the moved job has none on another lane.
  have hqueue (m : LaneId) (i : SlotId) (hi : i ≠ j) : i ∈ (t.lane m).queue ↔ i ∈ (s.lane m).queue := by
    by_cases hm : m = l
    · rw [hm]; exact h.move.queue i hi
    · rw [(h.lanes m hm).queue]
  have hactive (m : LaneId) (i : SlotId) (hi : i ≠ j) : (t.lane m).active = some i ↔ (s.lane m).active = some i := by
    by_cases hm : m = l
    · rw [hm]; exact h.move.active i hi
    · rw [(h.lanes m hm).active]
  have hrecords (m : LaneId) : (t.lane m).records = (s.lane m).records := by
    by_cases hm : m = l
    · rw [hm]; exact h.move.records
    · exact (h.lanes m hm).records
  have honly (m : LaneId) (hj : j ∈ (t.lane m).queue ∨ (t.lane m).active = some j) : m = l := by
    by_contra hm
    rw [(h.lanes m hm).queue, (h.lanes m hm).active] at hj
    have hstaging : (s.slot j).stagingLane = some m := hj.elim (fun hq => (hs.queued m j hq).2) fun ha => (hs.running m j ha).2
    have hstate : (s.slot j).state = .pending ∨ (s.slot j).state = .active :=
      hj.imp (fun hq => (hs.queued m j hq).1) fun ha => (hs.running m j ha).1
    exact hm (Option.some.inj (hstaging.symm.trans (h.move.left hstate)))
  refine ⟨fun f hf => ?_, fun m i hi => ?_, fun m => ?_, fun m i hi => ?_, fun i hi => ?_, fun i hi => ?_, fun i hi => ?_,
    fun i hi => ?_, fun m r hr => ?_, fun i => ?_⟩
  · have hfetch := h.fetch f hf
    split at hfetch
    next hj => rw [hj]; exact hfetch
    next hj => rw [(h.slots f.slot hj).state]; exact hs.fetching f hfetch
  · by_cases hij : i = j
    · subst hij
      obtain rfl := honly m (.inl hi)
      exact ⟨h.move.pending.mp hi, h.move.taken (.inl (h.move.pending.mp hi))⟩
    · rw [(h.slots i hij).state, (h.slots i hij).stagingLane]
      exact hs.queued m i ((hqueue m i hij).mp hi)
  · by_cases hm : m = l
    · rw [hm]; exact h.move.once
    · rw [(h.lanes m hm).queue]; exact hs.once m
  · by_cases hij : i = j
    · subst hij
      obtain rfl := honly m (.inr hi)
      exact ⟨h.move.running.mp hi, h.move.taken (.inr (h.move.running.mp hi))⟩
    · rw [(h.slots i hij).state, (h.slots i hij).stagingLane]
      exact hs.running m i ((hactive m i hij).mp hi)
  · by_cases hij : i = j
    · subst hij
      exact ⟨l, h.move.taken (.inl hi), h.move.pending.mpr hi⟩
    · obtain ⟨m, hlane, hmem⟩ := hs.pending i ((h.slots i hij).state ▸ hi)
      exact ⟨m, (h.slots i hij).stagingLane.trans hlane, (hqueue m i hij).mpr hmem⟩
  · by_cases hij : i = j
    · subst hij
      exact ⟨l, h.move.taken (.inr hi), h.move.running.mpr hi⟩
    · obtain ⟨m, hlane, hmem⟩ := hs.active i ((h.slots i hij).state ▸ hi)
      exact ⟨m, (h.slots i hij).stagingLane.trans hlane, (hactive m i hij).mpr hmem⟩
  · by_cases hij : i = j
    · subst hij; exact h.move.waiting hi
    · rw [(h.slots i hij).state]; exact hs.waiting i ((h.slots i hij).wait hi)
  · by_cases hij : i = j
    · subst hij; exact h.move.owing hi
    · rw [(h.slots i hij).state]; exact hs.owing i ((h.slots i hij).owes hi)
  · rw [hrecords m] at hr
    obtain ⟨hstate, hlane⟩ := hs.records m r hr
    by_cases hij : r.slot = j
    · rw [hij] at hlane ⊢
      have hout : (s.slot j).outstanding ≠ 0 := fun hzero => (hs.outstanding_eq_zero j).mp hzero m r hr hij
      obtain ⟨hheld, hstaging⟩ := h.move.held hout
      exact ⟨hheld, hstaging.trans hlane⟩
    · rw [(h.slots r.slot hij).state, (h.slots r.slot hij).stagingLane]
      exact ⟨hstate, hlane⟩
  · simp only [hrecords]
    rw [← hs.outstanding i]
    by_cases hij : i = j
    · rw [hij, h.move.outstanding]
    · rw [(h.slots i hij).outstanding]

theorem State.CountsRecords.placed {l : LaneId} {j : SlotId} (h : s.CountsRecords t l j) (hs : s.JobsPlaced) :
    t.JobsPlaced := by
  have hstate (i : SlotId) : (t.slot i).state = (s.slot i).state ∧ (t.slot i).stagingLane = (s.slot i).stagingLane ∧
      ((t.slot i).wait ≠ .none → (s.slot i).wait ≠ .none) ∧ ((t.slot i).Owes → (s.slot i).Owes) := by
    by_cases hij : i = j
    · rw [hij]; exact ⟨h.state, h.stagingLane, h.wait, h.owes⟩
    · exact ⟨(h.slots i hij).state, (h.slots i hij).stagingLane, (h.slots i hij).wait, (h.slots i hij).owes⟩
  have hqueue (m : LaneId) : (t.lane m).queue = (s.lane m).queue ∧ (t.lane m).active = (s.lane m).active := by
    by_cases hm : m = l
    · rw [hm]; exact ⟨h.queue, h.active⟩
    · exact ⟨(h.lanes m hm).queue, (h.lanes m hm).active⟩
  have hothers {m : LaneId} {r : ResultRecord} (hr : r ∈ (t.lane m).records) (hslot : r.slot ≠ j) :
      r ∈ (s.lane m).records := by
    by_cases hm : m = l
    · subst hm
      have hmem : r ∈ (t.lane m).records.filter fun r => r.slot != j := List.mem_filter.mpr ⟨hr, by simpa using hslot⟩
      rw [h.others] at hmem
      exact List.mem_of_mem_filter hmem
    · rwa [← (h.lanes m hm).records]
  refine ⟨fun f hf => ?_, fun m i hi => ?_, fun m => ?_, fun m i hi => ?_, fun i hi => ?_, fun i hi => ?_, fun i hi => ?_,
    fun i hi => ?_, fun m r hr => ?_, fun i => ?_⟩
  · rw [(hstate f.slot).1]; exact hs.fetching f (h.fetch ▸ hf)
  · rw [(hstate i).1, (hstate i).2.1]; exact hs.queued m i ((hqueue m).1 ▸ hi)
  · rw [(hqueue m).1]; exact hs.once m
  · rw [(hstate i).1, (hstate i).2.1]; exact hs.running m i ((hqueue m).2 ▸ hi)
  · obtain ⟨m, hlane, hmem⟩ := hs.pending i ((hstate i).1 ▸ hi)
    exact ⟨m, (hstate i).2.1.trans hlane, by rwa [(hqueue m).1]⟩
  · obtain ⟨m, hlane, hmem⟩ := hs.active i ((hstate i).1 ▸ hi)
    exact ⟨m, (hstate i).2.1.trans hlane, (hqueue m).2.trans hmem⟩
  · rw [(hstate i).1]; exact hs.waiting i ((hstate i).2.2.1 hi)
  · rw [(hstate i).1]; exact hs.owing i ((hstate i).2.2.2 hi)
  · rw [(hstate r.slot).1, (hstate r.slot).2.1]
    by_cases hslot : r.slot = j
    · rw [hslot]
      by_cases hm : m = l
      · rw [hm]; exact h.home
      · rw [(h.lanes m hm).records] at hr
        exact hslot ▸ hs.records m r hr
    · exact hs.records m r (hothers hr hslot)
  · rw [countP_records]
    by_cases hij : i = j
    · subst hij
      rw [h.outstanding, List.sum_map_eq_nsmul_single l]
      · simp [allLanes, List.count_eq_one_of_mem (List.nodup_finRange 16) (List.mem_finRange l)]
      · intro m hm _
        rw [(h.lanes m hm).records]
        refine List.countP_eq_zero.mpr fun r hr hj => hm ?_
        have hlane := (hs.records m r hr).2
        rw [eq_of_beq hj, h.home.2] at hlane
        exact (Option.some.inj hlane).symm
    · have hcount (m : LaneId) : (t.lane m).records.countP (fun r => r.slot == i) =
          (s.lane m).records.countP fun r => r.slot == i := by
        by_cases hm : m = l
        · subst hm
          have hsplit (rs : List ResultRecord) : rs.countP (fun r => r.slot == i) =
              (rs.filter fun r => r.slot != j).countP fun r => r.slot == i := by
            rw [List.countP_filter]
            refine List.countP_congr fun r _ => ?_
            simp only [Bool.and_eq_true, beq_iff_eq, bne_iff_ne]
            exact ⟨fun hi => ⟨hi, by rw [hi]; exact hij⟩, fun hi => hi.1⟩
          rw [hsplit, hsplit (s.lane m).records, h.others]
        · rw [(h.lanes m hm).records]
      simp only [hcount]
      rw [(h.slots i hij).outstanding, hs.outstanding i, countP_records]

end

/-! ### The relation -/

/-- The jobs stand placed in `t`, the read in flight is the same, and its slot stays in FETCHING. -/
structure State.PlacesKept (s t : State) : Prop where
  placed : t.JobsPlaced
  fetch : t.fetch = s.fetch
  fetching : ∀ j : SlotId, (s.slot j).state = .fetching → (t.slot j).state = .fetching

/-- From a state with the jobs placed, `t` keeps them so. -/
def State.KeepsPlaces (s t : State) : Prop := s.JobsPlaced → s.PlacesKept t

theorem State.JobsPlaced.kept {s : State} (hs : s.JobsPlaced) : s.PlacesKept s := ⟨hs, rfl, fun _ => id⟩

theorem State.KeepsPlaces.refl (s : State) : s.KeepsPlaces s := fun hs => ⟨hs, rfl, fun _ => id⟩

/-- Two changes, the second from a state of which the jobs placed before say something. -/
theorem State.KeepsPlaces.and_then {s t u : State} (h : s.KeepsPlaces t) (k : s.JobsPlaced → t.KeepsPlaces u) :
    s.KeepsPlaces u := fun hs =>
  have ht := h hs
  have hu := k hs ht.placed
  ⟨hu.placed, hu.fetch.trans ht.fetch, fun j hj => hu.fetching j (ht.fetching j hj)⟩

theorem State.KeepsPlaces.trans {s t u : State} (h : s.KeepsPlaces t) (k : t.KeepsPlaces u) : s.KeepsPlaces u :=
  h.and_then fun _ => k

theorem State.KeepsPlaces.foldl {α : Type} (f : State → α → State) (h : ∀ (s : State) (a : α), s.KeepsPlaces (f s a))
    (l : List α) : ∀ s : State, s.KeepsPlaces (l.foldl f s) := by
  induction l with
  | nil => exact .refl
  | cons a l ih => exact fun s => (h s a).trans (ih (f s a))

theorem State.SamePlaces.keepsPlaces {s t : State} (h : s.SamePlaces t) : s.KeepsPlaces t := fun hs =>
  ⟨h.placed hs, h.fetch, fun j hj => (h.slot j).state.trans hj⟩

/-- A slot that moves, not out of FETCHING, keeps the places. -/
theorem State.Relocates.keepsPlaces {s t : State} {l : LaneId} {j : SlotId} (h : s.Relocates t l j)
    (hfetch : t.fetch = s.fetch) (hj : (s.slot j).state ≠ .fetching) : s.KeepsPlaces t := by
  refine fun hs => ⟨h.placed hs, hfetch, fun i hi => ?_⟩
  have hij : i ≠ j := fun hij => hj (hij ▸ hi)
  rw [(h.slots i hij).state, hi]

theorem State.CountsRecords.keepsPlaces {s t : State} {l : LaneId} {j : SlotId} (h : s.CountsRecords t l j) :
    s.KeepsPlaces t := by
  refine fun hs => ⟨h.placed hs, h.fetch, fun i hi => ?_⟩
  by_cases hij : i = j
  · rw [hij, h.state, ← hij, hi]
  · rw [(h.slots i hij).state, hi]

/-! ### A slot without a place -/

/-- No job of slot `x` stands on a lane: it neither waits nor runs, and no record of it is left. -/
structure Slot.Unplaced (x : Slot) : Prop where
  pending : x.state ≠ .pending
  active : x.state ≠ .active
  outstanding : x.outstanding = 0

/-- The waits and the FINALs of slot `x` are as its state says. -/
structure Slot.Answers (x : Slot) : Prop where
  waiting : x.wait ≠ .none → x.state = .waiting
  owing : x.Owes → x.state = .posting

theorem State.JobsPlaced.answers {s : State} (hs : s.JobsPlaced) (j : SlotId) : (s.slot j).Answers :=
  ⟨hs.waiting j, hs.owing j⟩

theorem State.JobsPlaced.unplaced {s : State} (hs : s.JobsPlaced) {j : SlotId} (hpending : (s.slot j).state ≠ .pending)
    (hactive : (s.slot j).state ≠ .active) (hdraining : (s.slot j).state ≠ .draining) : (s.slot j).Unplaced :=
  ⟨hpending, hactive, hs.outstanding_of_state hactive hdraining⟩

/-- Slots without a place stand in no queue, on no lane and in no record, so such a slot can change alone. -/
theorem State.JobsPlaced.relocates {s t : State} (hs : s.JobsPlaced) {j : SlotId} (hold : (s.slot j).Unplaced)
    (hnew : (t.slot j).Unplaced) (hanswers : (t.slot j).Answers) (hlanes : ∀ m, (s.lane m).SamePlace (t.lane m))
    (hslots : ∀ i, i ≠ j → (s.slot i).SamePlace (t.slot i))
    (hfetch : ∀ f ∈ t.fetch, if f.slot = j then (t.slot j).state = .fetching else f ∈ s.fetch) : s.Relocates t 0 j where
  fetch := hfetch
  lanes m _ := hlanes m
  slots := hslots
  move :=
    { queue := fun i _ => by rw [(hlanes 0).queue]
      once := by rw [(hlanes 0).queue]; exact hs.once 0
      active := fun i _ => by rw [(hlanes 0).active]
      records := (hlanes 0).records
      left := fun h => (h.elim hold.pending hold.active).elim
      pending := by
        rw [(hlanes 0).queue]
        exact ⟨fun hq => absurd (hs.queued 0 j hq).1 hold.pending, fun hp => absurd hp hnew.pending⟩
      running := by
        rw [(hlanes 0).active]
        exact ⟨fun ha => absurd (hs.running 0 j ha).1 hold.active, fun ha => absurd ha hnew.active⟩
      taken := fun h => (h.elim hnew.pending hnew.active).elim
      held := fun h => absurd hold.outstanding h
      outstanding := hnew.outstanding.trans hold.outstanding.symm
      waiting := hanswers.waiting
      owing := hanswers.owing }

theorem modLane_samePlaces {s : State} {l : LaneId} {f : Lane → Lane} (h : (s.lane l).SamePlace (f (s.lane l))) :
    s.SamePlaces (s.modLane l f) := by
  refine ⟨rfl, fun m => ?_, fun j => .refl _⟩
  rw [State.lane_modLane]
  split
  next hm => rw [hm]; exact h
  next => exact .refl _

theorem modSlot_samePlaces {s : State} {j : SlotId} {f : Slot → Slot} (h : (s.slot j).SamePlace (f (s.slot j))) :
    s.SamePlaces (s.modSlot j f) := by
  refine ⟨rfl, fun l => .refl _, fun i => ?_⟩
  rw [State.slot_modSlot]
  split
  next hi => rw [hi]; exact h
  next => exact .refl _

/-- A change of other fields than lanes, slots and the read in flight keeps every place. -/
theorem State.SamePlaces.of_same {s t : State} (hlanes : t.lanes = s.lanes) (hslots : t.slots = s.slots)
    (hfetch : t.fetch = s.fetch) : s.SamePlaces t := by
  refine ⟨hfetch, fun l => ?_, fun j => ?_⟩
  · simp only [State.lane, hlanes]; exact .refl _
  · simp only [State.slot, hslots]; exact .refl _

theorem keepsPlaces_of_same {s t : State} (hlanes : t.lanes = s.lanes) (hslots : t.slots = s.slots)
    (hfetch : t.fetch = s.fetch) : s.KeepsPlaces t := (State.SamePlaces.of_same hlanes hslots hfetch).keepsPlaces

/-- A slot without a place changes alone, and no read is in flight for it afterwards. -/
theorem State.JobsPlaced.modSlot {s : State} (hs : s.JobsPlaced) {j : SlotId} {f : Slot → Slot}
    (hold : (s.slot j).Unplaced) (hnew : (f (s.slot j)).Unplaced) (hanswers : (f (s.slot j)).Answers)
    (hfetch : ∀ r ∈ s.fetch, r.slot ≠ j) : (s.modSlot j f).JobsPlaced := by
  have hself : (s.modSlot j f).slot j = f (s.slot j) := State.slot_modSlot_self s j f
  refine (hs.relocates (t := s.modSlot j f) hold (hself.symm ▸ hnew) (hself.symm ▸ hanswers) (fun m => .refl _) (fun i hi => ?_) fun r hr => ?_).placed hs
  · rw [State.slot_modSlot_ne s f hi]; exact .refl _
  · rw [if_neg (hfetch r hr)]; exact hr

/-- The same, of a slot that is not FETCHING. -/
theorem modSlot_keepsPlaces {s : State} {j : SlotId} {f : Slot → Slot} (hstate : (s.slot j).state ≠ .fetching)
    (hold : (s.slot j).Unplaced) (hnew : (f (s.slot j)).Unplaced) (hanswers : (f (s.slot j)).Answers) :
    s.KeepsPlaces (s.modSlot j f) := by
  intro hs
  refine ⟨hs.modSlot hold hnew hanswers fun r hr hj => hstate ?_, rfl, fun i hi => ?_⟩
  · rw [← hj]; exact hs.fetching r hr
  · have hij : i ≠ j := fun hij => hstate (hij ▸ hi)
    rw [State.slot_modSlot_ne s f hij, hi]

end Sys2Proof.Machine
end

section
/-! SUPPORT. What reports and answers leave unchanged (`State.ReportsOnly`), the ends of jobs in the terms of Effects.lean
(`leaveQueue_eq`, `detachActive_eq`), and that reports, ends, lanes and production keep the jobs placed. -/

namespace Sys2Proof.Machine

-- One proof at a time: every thread reserves memory of its own, and the check bounds the whole.
set_option Elab.async false

/-! ### What reports change -/

/-- Reports, frees and answers change the posters, the job rings that a close waits for, and of a slot its state, its
reports, its end status and what it waits for. -/
structure State.ReportsOnly (s t : State) : Prop where
  lanes : t.lanes = s.lanes
  loanMsgs : t.loanMsgs = s.loanMsgs
  tagMaps : t.tagMaps = s.tagMaps
  fetch : t.fetch = s.fetch
  slot : ∀ j : SlotId, t.slot j =
    { s.slot j with
      state := (t.slot j).state, reports := (t.slot j).reports, endStatus := (t.slot j).endStatus
      wait := (t.slot j).wait }

theorem State.ReportsOnly.refl (s : State) : s.ReportsOnly s := ⟨rfl, rfl, rfl, rfl, fun _ => rfl⟩

theorem State.ReportsOnly.trans {s t u : State} (h : s.ReportsOnly t) (k : t.ReportsOnly u) : s.ReportsOnly u :=
  ⟨k.lanes.trans h.lanes, k.loanMsgs.trans h.loanMsgs, k.tagMaps.trans h.tagMaps, k.fetch.trans h.fetch,
    fun j => by rw [k.slot j, h.slot j]⟩

theorem State.ReportsOnly.foldl {α : Type} (f : State → α → State) (h : ∀ (s : State) (a : α), s.ReportsOnly (f s a))
    (l : List α) : ∀ s : State, s.ReportsOnly (l.foldl f s) := by
  induction l with
  | nil => exact .refl
  | cons a l ih => exact fun s => (h s a).trans (ih (f s a))

theorem State.ReportsOnly.lane {s t : State} (h : s.ReportsOnly t) (l : LaneId) : t.lane l = s.lane l := by
  simp only [State.lane, h.lanes]

theorem State.ReportsOnly.stagingLane {s t : State} (h : s.ReportsOnly t) (j : SlotId) :
    (t.slot j).stagingLane = (s.slot j).stagingLane := by rw [h.slot j]

section
variable {s : State}

theorem modPoster_reportsOnly (n : RingId) (f : Poster → Poster) : s.ReportsOnly (s.modPoster n f) :=
  ⟨rfl, rfl, rfl, rfl, fun _ => rfl⟩

theorem modJobRing_reportsOnly (r : RingId) (f : JobRing → JobRing) : s.ReportsOnly (s.modJobRing r f) :=
  ⟨rfl, rfl, rfl, rfl, fun _ => rfl⟩

theorem modSlot_reportsOnly (j : SlotId) {f : Slot → Slot}
    (h : ∀ x, f x = { x with
      state := (f x).state, reports := (f x).reports, endStatus := (f x).endStatus, wait := (f x).wait }) :
    s.ReportsOnly (s.modSlot j f) := by
  refine ⟨rfl, rfl, rfl, rfl, fun i => ?_⟩
  rw [State.slot_modSlot]
  split
  next hi => rw [hi]; exact h _
  next => rfl

theorem pushReport_reportsOnly (j : SlotId) (body : ReportBody) : s.ReportsOnly (pushReport j body s) := by
  unfold pushReport
  exact (modSlot_reportsOnly j fun _ => rfl).trans (modPoster_reportsOnly _ _)

theorem completeClose_reportsOnly (r : RingId) (c : SlotId) (ended waited : Nat) :
    s.ReportsOnly (completeClose r c ended waited s) :=
  ((modJobRing_reportsOnly r _).trans (modSlot_reportsOnly c fun _ => rfl)).trans (pushReport_reportsOnly _ _)

theorem countFreed_reportsOnly (r : RingId) : s.ReportsOnly (countFreed r s) := by
  unfold countFreed
  split
  · exact .refl s
  · split
    · split
      · exact completeClose_reportsOnly _ _ _ _
      · exact modSlot_reportsOnly _ fun _ => rfl
    · exact .refl s

theorem freeSlot_reportsOnly (j : SlotId) : s.ReportsOnly (freeSlot j s) :=
  (modSlot_reportsOnly j fun _ => rfl).trans (countFreed_reportsOnly _)

theorem dropHead_reportsOnly (n : RingId) : s.ReportsOnly (dropHead n s) := by
  unfold dropHead
  split
  · exact .refl s
  · split
    · exact modPoster_reportsOnly _ _
    · split
      · exact ((modPoster_reportsOnly n _).trans (modSlot_reportsOnly _ fun _ => rfl)).trans (freeSlot_reportsOnly _)
      · exact (modPoster_reportsOnly n _).trans (modSlot_reportsOnly _ fun _ => rfl)

theorem dropHeads_reportsOnly (k : Nat) (n : RingId) : ∀ s : State, s.ReportsOnly (dropHeads k n s) := by
  induction k with
  | zero => exact .refl
  | succ k ih => exact fun s => (dropHead_reportsOnly n).trans (ih _)

theorem createReport_reportsOnly (j : SlotId) (body : ReportBody) : s.ReportsOnly (createReport j body s) := by
  unfold createReport
  simp only
  split
  · exact (pushReport_reportsOnly j body).trans (dropHeads_reportsOnly _ _ _)
  · exact pushReport_reportsOnly j body

theorem answer_reportsOnly (j : SlotId) (st : Status) (body : FinalBody) : s.ReportsOnly (answer j st body s) :=
  (modSlot_reportsOnly j fun _ => rfl).trans (createReport_reportsOnly _ _)

theorem lowerHold_reportsOnly (h : SlotId) : s.ReportsOnly (lowerHold h s) := by
  unfold lowerHold
  split
  · split
    · exact answer_reportsOnly _ _ _
    · exact modSlot_reportsOnly _ fun _ => rfl
  · exact .refl s

theorem reportRetirement_reportsOnly (j : SlotId) (b : Buffer) : s.ReportsOnly (reportRetirement j b s) := by
  unfold reportRetirement
  split
  · exact modSlot_reportsOnly _ fun _ => rfl
  · exact createReport_reportsOnly _ _

theorem completeCancel_reportsOnly (c : SlotId) : s.ReportsOnly (completeCancel c s) := by
  unfold completeCancel
  split
  · exact answer_reportsOnly _ _ _
  · exact .refl s

/-! ### The ends of jobs in the terms of Effects.lean -/

theorem finishDraining_eq (j : SlotId) (s : State) : finishDraining j s = s.drained j := rfl

theorem endWith_eq (x : Slot) (st : Status) : x.endWith st = { x with endStatus := some (x.endStatus.getD st) } := by
  unfold Slot.endWith
  split
  next h => rw [h]; rfl
  next st' h => rw [h, Option.getD_some, ← h]

theorem modLane_congr {l : LaneId} {f g : Lane → Lane} (h : f (s.lane l) = g (s.lane l)) : s.modLane l f = s.modLane l g := by
  unfold State.modLane
  rw [h]

/-- What a head withdraws (R60). -/
theorem withdrawHead_of_head {l : LaneId} {h : SlotId} {rest : List SlotId} (hqueue : (s.lane l).queue = h :: rest) :
    withdrawHead l s =
      { s.modLane l (fun x => { x with loanPhase := .idle, partnerMark := false }) with
        loanMsgs :=
          if (s.lane l).loanPhase = .asked then
            s.loanMsgs ++
              [{ src := l
                 dst := partnerOf (jobOf s h).fields
                 kind := .withdraw
                 loan := loanFor s l h (s.lane l).loanNumber }]
          else s.loanMsgs } := by
  unfold withdrawHead
  simp only [hqueue]
  split <;> rfl

/-- A job leaves its queue, and a SPAN at its head withdraws what it asked (R51, R60). -/
theorem leaveQueue_eq (l : LaneId) (j : SlotId) (s : State) : leaveQueue l j s = s.leftQueue l j := by
  unfold leaveQueue State.leftQueue
  by_cases hhead : (s.lane l).queue.head? = some j
  · obtain ⟨rest, hqueue⟩ : ∃ rest, (s.lane l).queue = j :: rest := List.head?_eq_some_iff.mp hhead
    simp only [hhead, if_true, true_and, withdrawHead_of_head hqueue]
    have hmerge (q : List LoanMsg) (f g : Lane → Lane) :
        State.modLane { s.modLane l f with loanMsgs := q } l g = { (s.modLane l f).modLane l g with loanMsgs := q } := rfl
    rw [hmerge, State.modLane_modLane]
    rfl
  · simp only [hhead, if_false, false_and]
    rfl

/-- A job leaves its lanes and ends (R63). -/
theorem detachActive_eq (l : LaneId) (j : SlotId) (st : Status) (s : State) :
    detachActive l j st s = (s.leftLanes l j).ended j st := by
  have hreturn : returnPartner l j s =
      if (jobOf s j).kind = .span ∧
          ((s.lane (partnerOf (jobOf s j).fields)).lentTo.any fun loan => decide (loan.primary = l ∧ loan.slot = j)) = true
      then s.modLane (partnerOf (jobOf s j).fields) fun x => { x with lentTo := none } else s := by
    unfold returnPartner
    simp only
    split
    next loan hlent => simp [hlent, isSpan]
    next hlent => simp [hlent]
  unfold detachActive State.leftLanes State.ended
  simp only [hreturn, endWith_eq]

theorem detachPending_eq (l : LaneId) (j : SlotId) (st : Status) (s : State) :
    detachPending l j st s = (s.leftQueue l j).ended j st := by
  unfold detachPending State.ended
  simp only [leaveQueue_eq, endWith_eq]

end

end Sys2Proof.Machine
end

section
/-! SUPPORT. Reports, lanes, ends and production keep the jobs placed (`State.KeepsPlaces`). -/

namespace Sys2Proof.Machine

-- One proof at a time: every thread reserves memory of its own, and the check bounds the whole.
set_option Elab.async false

section
variable {s : State}

/-! ### Reports -/

theorem modPoster_keepsPlaces (n : RingId) (f : Poster → Poster) : s.KeepsPlaces (s.modPoster n f) :=
  keepsPlaces_of_same rfl rfl rfl

theorem modJobRing_keepsPlaces (r : RingId) (f : JobRing → JobRing) : s.KeepsPlaces (s.modJobRing r f) :=
  keepsPlaces_of_same rfl rfl rfl

/-- An update of other fields than those of the place keeps it. -/
theorem modSlot_keepsPlaces_of_same {j : SlotId} {f : Slot → Slot} (h : (s.slot j).SamePlace (f (s.slot j))) :
    s.KeepsPlaces (s.modSlot j f) := (modSlot_samePlaces h).keepsPlaces

theorem modLane_keepsPlaces {l : LaneId} {f : Lane → Lane} (h : (s.lane l).SamePlace (f (s.lane l))) :
    s.KeepsPlaces (s.modLane l f) := (modLane_samePlaces h).keepsPlaces

/-- A slot that waits or is FETCHING, POSTING or FREE has no place. -/
theorem State.JobsPlaced.unplaced_of (hs : s.JobsPlaced) {j : SlotId} {st : SlotState} (h : (s.slot j).state = st)
    (hst : st = .waiting ∨ st = .fetching ∨ st = .posting ∨ st = .free) : (s.slot j).Unplaced := by
  refine hs.unplaced ?_ ?_ ?_ <;> rw [h] <;> obtain rfl | rfl | rfl | rfl := hst <;> exact (nomatch ·)

/-- A slot that is not WAITING waits for nothing. -/
theorem State.JobsPlaced.wait_none (hs : s.JobsPlaced) {j : SlotId} (h : (s.slot j).state ≠ .waiting) :
    (s.slot j).wait = .none := by
  by_contra hwait
  exact h (hs.waiting j hwait)

/-- A slot that is not POSTING owes no FINAL. -/
theorem State.JobsPlaced.not_owes (hs : s.JobsPlaced) {j : SlotId} (h : (s.slot j).state ≠ .posting) :
    ¬ (s.slot j).Owes := fun howes => h (hs.owing j howes)

/-- A PROGRESS is a report of any slot, a FINAL one of a slot in POSTING (R65, R68, R78). -/
theorem pushReport_keepsPlaces {j : SlotId} {body : ReportBody}
    (h : (∃ a n k, body = .progress a n k) ∨ (s.slot j).state = .posting) : s.KeepsPlaces (pushReport j body s) := by
  unfold pushReport
  refine State.KeepsPlaces.trans (fun hs => ?_) (modPoster_keepsPlaces _ _)
  obtain ⟨a, n, k, rfl⟩ | hposting := h
  · refine modSlot_keepsPlaces_of_same ⟨rfl, rfl, rfl, id, fun ⟨r, hr, hfinal⟩ => ?_⟩ hs
    obtain hold | hnew := List.mem_append.mp hr
    · exact ⟨r, hold, hfinal⟩
    · rw [List.mem_singleton.mp hnew] at hfinal
      exact nomatch hfinal
  · have hold := hs.unplaced_of hposting (.inr (.inr (.inl rfl)))
    exact modSlot_keepsPlaces (by rw [hposting]; exact (nomatch ·)) hold ⟨hold.pending, hold.active, hold.outstanding⟩
      ⟨hs.waiting j, fun _ => hposting⟩ hs

/-- A request that waits, or an entry just fetched, passes to POSTING (R68). -/
theorem State.JobsPlaced.posted (hs : s.JobsPlaced) {j : SlotId} {st : SlotState} (hstate : (s.slot j).state = st)
    (hst : st = .waiting ∨ st = .fetching) (hfetch : ∀ r ∈ s.fetch, r.slot ≠ j) (status : Status) :
    (s.modSlot j fun x => { x with state := .posting, endStatus := some status, wait := .none }).JobsPlaced :=
  have hold := hs.unplaced_of hstate (hst.imp_right .inl)
  hs.modSlot hold ⟨(nomatch ·), (nomatch ·), hold.outstanding⟩ ⟨fun h => absurd rfl h, fun _ => rfl⟩ hfetch

/-- A request that waits passes to POSTING (R68, R93, R100, R156). -/
theorem post_keepsPlaces {j : SlotId} (hstate : (s.slot j).state = .waiting) (status : Status) :
    s.KeepsPlaces (s.modSlot j fun x => { x with state := .posting, endStatus := some status, wait := .none }) := by
  intro hs
  have hold := hs.unplaced_of hstate (.inl rfl)
  exact modSlot_keepsPlaces (by rw [hstate]; exact (nomatch ·)) hold ⟨(nomatch ·), (nomatch ·), hold.outstanding⟩
    ⟨fun h => absurd rfl h, fun _ => rfl⟩ hs

theorem completeClose_keepsPlaces (r : RingId) {c : SlotId} (hstate : (s.slot c).state = .waiting) (ended waited : Nat) :
    s.KeepsPlaces (completeClose r c ended waited s) := by
  unfold completeClose
  refine ((modJobRing_keepsPlaces r _).trans (post_keepsPlaces (by exact hstate) .ok)).trans (pushReport_keepsPlaces (.inr ?_))
  rw [State.slot_modSlot_self]

theorem countFreed_keepsPlaces (r : RingId) : s.KeepsPlaces (countFreed r s) := by
  intro hs
  unfold countFreed
  split
  · exact hs.kept
  next c _ =>
    split
    next q remaining ended waited hwait =>
      have hstate : (s.slot c).state = .waiting := hs.waiting c (by simp [hwait])
      split
      · exact completeClose_keepsPlaces r hstate _ _ hs
      · exact modSlot_keepsPlaces_of_same ⟨rfl, rfl, rfl, fun _ => by simp [hwait], id⟩ hs
    · exact hs.kept

theorem freeSlot_keepsPlaces {j : SlotId} (hstate : (s.slot j).state = .posting) : s.KeepsPlaces (freeSlot j s) := by
  unfold freeSlot
  refine State.KeepsPlaces.trans (fun hs => ?_) (countFreed_keepsPlaces _)
  have hold := hs.unplaced_of hstate (.inr (.inr (.inl rfl)))
  refine modSlot_keepsPlaces (by rw [hstate]; exact (nomatch ·)) hold ⟨(nomatch ·), (nomatch ·), hold.outstanding⟩
    ⟨fun h => ?_, fun ⟨r, hr, _⟩ => (nomatch hr)⟩ hs
  exact absurd (hs.wait_none (by rw [hstate]; exact (nomatch ·))) h

theorem dropHead_keepsPlaces (n : RingId) : s.KeepsPlaces (dropHead n s) := by
  unfold dropHead
  split
  · exact .refl s
  next j rest _ =>
    split
    · exact modPoster_keepsPlaces _ _
    next report others hreports =>
      have hless : s.KeepsPlaces ((s.modPoster n fun p => { p with queue := rest }).modSlot j
          fun x => { x with reports := others }) := by
        refine (modPoster_keepsPlaces n _).trans (modSlot_keepsPlaces_of_same ⟨rfl, rfl, rfl, id, ?_⟩)
        rintro ⟨r, hr, hfinal⟩
        refine ⟨r, ?_, hfinal⟩
        rw [State.modPoster_slot, hreports]
        exact List.mem_cons_of_mem _ hr
      split
      next hfinal =>
        refine hless.and_then fun hs => freeSlot_keepsPlaces ?_
        rw [State.slot_modSlot_self]
        exact hs.owing j ⟨report, by rw [hreports]; exact List.mem_cons_self, hfinal⟩
      · exact hless

theorem dropHeads_keepsPlaces (k : Nat) (n : RingId) : ∀ s : State, s.KeepsPlaces (dropHeads k n s) := by
  induction k with
  | zero => exact .refl
  | succ k ih => exact fun s => (dropHead_keepsPlaces n).trans (ih _)

theorem createReport_keepsPlaces {j : SlotId} {body : ReportBody}
    (h : (∃ a n k, body = .progress a n k) ∨ (s.slot j).state = .posting) : s.KeepsPlaces (createReport j body s) := by
  unfold createReport
  simp only
  split
  · exact (pushReport_keepsPlaces h).trans (dropHeads_keepsPlaces _ _ _)
  · exact pushReport_keepsPlaces h

/-- Merging a retirement makes no FINAL (R133). -/
theorem mergeNewest_owes {address : Addr} {records : BitVec 16} {rs : List Report}
    (h : ∃ r ∈ mergeNewest address records rs, r.isFinal = true) : ∃ r ∈ rs, r.isFinal = true := by
  induction rs with
  | nil => exact h
  | cons a rs ih =>
    unfold mergeNewest at h
    split at h
    · obtain ⟨r, hr, hfinal⟩ := h
      obtain rfl | hr := List.mem_cons.mp hr
      · exact ⟨r, List.mem_cons_self, hfinal⟩
      · obtain ⟨r', hr', hfinal'⟩ := ih ⟨r, hr, hfinal⟩
        exact ⟨r', List.mem_cons_of_mem _ hr', hfinal'⟩
    · split at h
      · split at h
        · exact h
        · obtain ⟨r, hr, hfinal⟩ := h
          obtain rfl | hr := List.mem_cons.mp hr
          · exact nomatch hfinal
          · exact ⟨r, List.mem_cons_of_mem _ hr, hfinal⟩
      · exact h

theorem reportRetirement_keepsPlaces (j : SlotId) (b : Buffer) : s.KeepsPlaces (reportRetirement j b s) := by
  unfold reportRetirement
  split
  · exact modSlot_keepsPlaces_of_same ⟨rfl, rfl, rfl, id, mergeNewest_owes⟩
  · exact createReport_keepsPlaces (.inl ⟨_, _, _, rfl⟩)

/-- A request that waits is answered. -/
theorem answer_keepsPlaces {j : SlotId} (hstate : (s.slot j).state = .waiting) (st : Status) (body : FinalBody) :
    s.KeepsPlaces (answer j st body s) :=
  (post_keepsPlaces hstate st).trans (createReport_keepsPlaces (.inr (by rw [State.slot_modSlot_self])))

/-- An entry just fetched is answered. -/
theorem State.JobsPlaced.answer (hs : s.JobsPlaced) {j : SlotId} (hstate : (s.slot j).state = .fetching)
    (hfetch : s.fetch = none) (st : Status) (body : FinalBody) : (Machine.answer j st body s).JobsPlaced :=
  (createReport_keepsPlaces (.inr (by rw [State.slot_modSlot_self]))
    (hs.posted hstate (.inr rfl) (by simp [hfetch]) st)).placed

theorem lowerHold_keepsPlaces (h : SlotId) : s.KeepsPlaces (lowerHold h s) := by
  intro hs
  unfold lowerHold
  split
  next marks lane ring tag abandoned hwait =>
    split
    · exact answer_keepsPlaces (hs.waiting h (by simp [hwait])) _ _ hs
    · exact modSlot_keepsPlaces_of_same ⟨rfl, rfl, rfl, fun _ => by simp [hwait], id⟩ hs
  · exact hs.kept

theorem completeCancel_keepsPlaces (c : SlotId) : s.KeepsPlaces (completeCancel c s) := by
  intro hs
  unfold completeCancel
  split
  next ring tag found hwait => exact answer_keepsPlaces (hs.waiting c (by simp [hwait])) _ _ hs
  · exact hs.kept

/-! ### Entering POSTING -/

theorem enterPosting_keepsPlaces {j : SlotId} (hstate : (s.slot j).state = .draining) (hnone : (s.slot j).outstanding = 0) :
    s.KeepsPlaces (enterPosting j s) := by
  unfold enterPosting
  simp only
  have hmap : s.KeepsPlaces
      (s.setTagMap (s.slot j).ring ((s.tagMap (s.slot j).ring).filter fun e => e.slot != j)) :=
    keepsPlaces_of_same rfl rfl rfl
  have hposted := (hmap.and_then fun hs => modSlot_keepsPlaces (j := j)
    (f := fun y => { y with state := .posting, cancelWaiter := none })
    (by rw [State.setTagMap_slot, hstate]; exact (nomatch ·))
    ⟨by rw [State.setTagMap_slot, hstate]; exact (nomatch ·), by rw [State.setTagMap_slot, hstate]; exact (nomatch ·), hnone⟩
    ⟨(nomatch ·), (nomatch ·), hnone⟩
    ⟨fun h => absurd (hs.wait_none (by rw [hstate]; exact (nomatch ·))) h, fun _ => rfl⟩).trans
    (createReport_keepsPlaces (body := .final ((s.slot j).endStatus.getD .ok) (finalAccount (s.slot j)))
      (.inr (by rw [State.slot_modSlot_self])))
  split
  · exact hposted
  · exact hposted.trans (completeCancel_keepsPlaces _)

theorem finishDraining_keepsPlaces (j : SlotId) : s.KeepsPlaces (finishDraining j s) := by
  unfold finishDraining
  split
  next h => exact enterPosting_keepsPlaces h.1 h.2
  · exact .refl s

/-! ### Lanes and loans -/

theorem sendLoan_keepsPlaces (m : LoanMsg) : s.KeepsPlaces (sendLoan m s) :=
  keepsPlaces_of_same rfl rfl rfl

theorem sendPlaceOpen_keepsPlaces (l : LaneId) (loan : Loan) : s.KeepsPlaces (sendPlaceOpen l loan s) := by
  refine .foldl _ (fun s m => ?_) _ s
  split
  · exact .refl s
  · exact sendLoan_keepsPlaces _

/-- A lane and a slot of it change together as the job of the slot moves. -/
theorem relocates_of_mod {l : LaneId} {j : SlotId} {f : Lane → Lane} {g : Slot → Slot}
    (h : Relocation l j (s.lane l) (f (s.lane l)) (s.slot j) (g (s.slot j))) (hfetch : ∀ r ∈ s.fetch, r.slot ≠ j) :
    s.Relocates ((s.modLane l f).modSlot j g) l j := by
  have hlane : ((s.modLane l f).modSlot j g).lane l = f (s.lane l) := State.lane_modLane_self s l f
  have hself : ((s.modLane l f).modSlot j g).slot j = g (s.slot j) := State.slot_modSlot_self _ j g
  refine ⟨fun r hr => ?_, fun m hm => ?_, fun i hi => ?_, ?_⟩
  · rw [if_neg (hfetch r hr)]; exact hr
  · have hother : ((s.modLane l f).modSlot j g).lane m = s.lane m := State.lane_modLane_ne s f hm
    rw [hother]
    exact .refl _
  · rw [State.slot_modSlot_ne _ g hi]
    exact .refl _
  · rw [hlane, hself]; exact h

/-- The head of a lane with no active job activates (R52, R53). -/
theorem activateHead_keepsPlaces {l : LaneId} (hactive : (s.lane l).active = none) : s.KeepsPlaces (activateHead l s) := by
  intro hs
  unfold activateHead
  split
  · exact hs.kept
  next h rest hqueue =>
    have hmem : h ∈ (s.lane l).queue := by rw [hqueue]; exact List.mem_cons_self
    obtain ⟨hstate, hlane⟩ := hs.queued l h hmem
    have honce := hs.once l
    rw [hqueue] at honce
    have hmove := relocates_of_mod (s := s) (l := l) (j := h)
      (f := fun x => { x with
        queue := rest, active := some h, loanPhase := .idle, partnerMark := false
        ctx := some (activationContext (jobOf s h) (settleInterval s l (jobOf s h)) s.timebase
          ((s.lane l).partnerMark && isSpan (jobOf s h))) })
      (g := fun x => { x with
        state := .active, startTimer := if startsAtActivation (jobOf s h) then none else x.startTimer })
      { queue := fun i hi => by simp [hqueue, hi]
        once := honce.of_cons
        active := fun i hi => by simp [hactive, Ne.symm hi]
        records := rfl
        left := fun _ => hlane
        pending := ⟨fun hq => absurd hq (List.nodup_cons.mp honce).1, (nomatch ·)⟩
        running := ⟨fun _ => rfl, fun _ => rfl⟩
        taken := fun _ => hlane
        held := fun _ => ⟨.inl rfl, rfl⟩
        outstanding := rfl
        waiting := fun hwait => absurd (hs.wait_none (by rw [hstate]; exact (nomatch ·))) hwait
        owing := fun howes => absurd howes (hs.not_owes (by rw [hstate]; exact (nomatch ·))) }
      (fun r hr hrh => by have := hs.fetching r hr; rw [hrh, hstate] at this; exact nomatch this)
    exact hmove.keepsPlaces rfl (by rw [hstate]; exact (nomatch ·)) hs

theorem laneAct_keepsPlaces (l : LaneId) : s.KeepsPlaces (laneAct l s) := by
  unfold laneAct
  split
  next hfree =>
    obtain ⟨-, hactive, -⟩ := (freeForActivation_iff s l).mp hfree
    split
    · exact .refl s
    · split
      · split
        · exact (modLane_keepsPlaces ⟨rfl, rfl, rfl⟩).trans (sendLoan_keepsPlaces _)
        · exact .refl s
      · exact activateHead_keepsPlaces hactive
  next =>
    split
    · split
      · exact .refl s
      · exact ((modLane_keepsPlaces ⟨rfl, rfl, rfl⟩).trans
          ((modLane_keepsPlaces ⟨rfl, rfl, rfl⟩).trans (sendLoan_keepsPlaces _))).trans (sendPlaceOpen_keepsPlaces _ _)
    · exact .refl s

theorem takeLoanRequest_keepsPlaces (p : LaneId) (loan : Loan) : s.KeepsPlaces (takeLoanRequest p loan s) := by
  unfold takeLoanRequest
  split
  · split
    · exact (modLane_keepsPlaces ⟨rfl, rfl, rfl⟩).trans (sendLoan_keepsPlaces _)
    · exact modLane_keepsPlaces ⟨rfl, rfl, rfl⟩
  · split
    · exact modLane_keepsPlaces ⟨rfl, rfl, rfl⟩
    · exact sendLoan_keepsPlaces _

/-- An asking head stands on a lane with no active job, so the granted SPAN activates there (R58). -/
theorem takeGrant_keepsPlaces {l : LaneId} (hsound : (s.lane l).Sound) (p : LaneId) (loan : Loan) :
    s.KeepsPlaces (takeGrant l p loan s) := by
  unfold takeGrant
  split
  next hasks =>
    obtain ⟨-, -, hphase, -⟩ := (asksFor_iff s l loan).mp hasks
    exact activateHead_keepsPlaces (hsound.asking (by simp [hphase])).2.1
  next => exact sendLoan_keepsPlaces _

theorem takeDefer_keepsPlaces (l : LaneId) (loan : Loan) : s.KeepsPlaces (takeDefer l loan s) := by
  unfold takeDefer
  split
  · exact modLane_keepsPlaces ⟨rfl, rfl, rfl⟩
  · exact .refl s

theorem takeWithdraw_keepsPlaces (p : LaneId) (loan : Loan) : s.KeepsPlaces (takeWithdraw p loan s) := by
  unfold takeWithdraw
  split
  · exact (modLane_keepsPlaces ⟨rfl, rfl, rfl⟩).trans (sendPlaceOpen_keepsPlaces _ _)
  · exact .refl s

theorem takeReturn_keepsPlaces (p : LaneId) (loan : Loan) : s.KeepsPlaces (takeReturn p loan s) := by
  unfold takeReturn
  split
  · exact (modLane_keepsPlaces ⟨rfl, rfl, rfl⟩).trans (laneAct_keepsPlaces _)
  · exact .refl s

theorem takePlaceOpen_keepsPlaces (l p : LaneId) : s.KeepsPlaces (takePlaceOpen l p s) := by
  unfold takePlaceOpen
  simp only
  split
  · exact .refl s
  · split
    · exact (modLane_keepsPlaces ⟨rfl, rfl, rfl⟩).trans (sendLoan_keepsPlaces _)
    · exact .refl s

/-! ### Ends -/

/-- The slot of a job that ends (R47, R63, R64). -/
def Slot.drain (st : Status) (y : Slot) : Slot :=
  { y with state := .draining, startTimer := none, endStatus := some (y.endStatus.getD st) }

/-- The lane of a job that leaves its queue (R51, R60). -/
def Lane.dropJob (j : SlotId) (x : Lane) : Lane :=
  { x with
    queue := x.queue.erase j
    loanPhase := if x.queue.head? = some j then .idle else x.loanPhase
    partnerMark := if x.queue.head? = some j then false else x.partnerMark }

/-- The lane of a job that ends there (R63). -/
def Lane.dropActive (x : Lane) : Lane := { x with active := none, ctx := none }

theorem detachPending_eq_mod (l : LaneId) (j : SlotId) (st : Status) (s : State) :
    detachPending l j st s =
      (State.modLane { s with loanMsgs := (s.leftQueue l j).loanMsgs } l (Lane.dropJob j)).modSlot j (Slot.drain st) :=
  detachPending_eq l j st s

/-- A slot that ends goes to DRAINING from where it stood, with its records and its staging lane. -/
theorem State.JobsPlaced.drain (hs : s.JobsPlaced) {j : SlotId} {st : SlotState} (hstate : (s.slot j).state = st)
    (hst : st = .pending ∨ st = .active) :
    (∀ r ∈ s.fetch, r.slot ≠ j) ∧ (s.slot j).state ≠ .fetching ∧ (s.slot j).wait = .none ∧ ¬ (s.slot j).Owes := by
  have hne : (s.slot j).state ≠ .fetching ∧ (s.slot j).state ≠ .waiting ∧ (s.slot j).state ≠ .posting := by
    rw [hstate]
    obtain rfl | rfl := hst <;> exact ⟨(nomatch ·), (nomatch ·), (nomatch ·)⟩
  obtain ⟨hfetching, hwaiting, hposting⟩ := hne
  refine ⟨fun r hr hrj => hfetching ?_, hfetching, hs.wait_none hwaiting, hs.not_owes hposting⟩
  rw [← hrj]
  exact hs.fetching r hr

/-- A waiting job leaves its queue and drains (R51, R64). -/
theorem detachPending_keepsPlaces {l : LaneId} {j : SlotId} (hmem : j ∈ (s.lane l).queue) (st : Status) :
    s.KeepsPlaces (detachPending l j st s) := by
  intro hs
  obtain ⟨hstate, hlane⟩ := hs.queued l j hmem
  obtain ⟨hfetch, hfetching, hwait, howes⟩ := hs.drain hstate (.inl rfl)
  have honce := hs.once l
  have hmove : Relocation l j (s.lane l) (Lane.dropJob j (s.lane l)) (s.slot j) (Slot.drain st (s.slot j)) :=
    { queue := fun i hi => List.mem_erase_of_ne hi
      once := honce.erase j
      active := fun i hi => Iff.rfl
      records := rfl
      left := fun _ => hlane
      pending := ⟨fun hq => absurd hq honce.not_mem_erase, (nomatch ·)⟩
      running := ⟨fun ha => (nomatch hstate.symm.trans (hs.running l j ha).1), (nomatch ·)⟩
      taken := fun _ => hlane
      held := fun _ => ⟨.inr rfl, rfl⟩
      outstanding := rfl
      waiting := fun h => absurd hwait h
      owing := fun h => absurd h howes }
  rw [detachPending_eq_mod]
  generalize (s.leftQueue l j).loanMsgs = q
  have hloans : s.KeepsPlaces { s with loanMsgs := q } := keepsPlaces_of_same rfl rfl rfl
  exact hloans.trans ((relocates_of_mod (s := { s with loanMsgs := q }) hmove hfetch).keepsPlaces rfl hfetching) hs

/-- An active job leaves its lane and drains (R63). -/
theorem detachActive_keepsPlaces {l : LaneId} {j : SlotId} (hactive : (s.lane l).active = some j) (st : Status) :
    s.KeepsPlaces (detachActive l j st s) := by
  -- The partner that is lent no longer keeps its place; then the job leaves lane and slot.
  have hleave {u : State} (hu : (u.lane l).active = some j) :
      u.KeepsPlaces ((u.modLane l Lane.dropActive).modSlot j (Slot.drain st)) := by
    intro hs
    obtain ⟨hstate, hlane⟩ := hs.running l j hu
    obtain ⟨hfetch, hfetching, hwait, howes⟩ := hs.drain hstate (.inr rfl)
    have hmove : Relocation l j (u.lane l) (u.lane l).dropActive (u.slot j) (Slot.drain st (u.slot j)) :=
      { queue := fun i hi => Iff.rfl
        once := hs.once l
        active := fun i hi => ⟨(nomatch ·), fun h => absurd (Option.some.inj (hu.symm.trans h)).symm hi⟩
        records := rfl
        left := fun _ => hlane
        pending := ⟨fun hq => (nomatch hstate.symm.trans (hs.queued l j hq).1), (nomatch ·)⟩
        running := ⟨(nomatch ·), (nomatch ·)⟩
        taken := fun _ => hlane
        held := fun _ => ⟨.inr rfl, rfl⟩
        outstanding := rfl
        waiting := fun h => absurd hwait h
        owing := fun h => absurd h howes }
    exact (relocates_of_mod hmove hfetch).keepsPlaces rfl hfetching hs
  rw [detachActive_eq]
  unfold State.leftLanes
  simp only
  split
  · refine (modLane_keepsPlaces ⟨rfl, rfl, rfl⟩).trans (hleave ?_)
    rw [State.lane_modLane]
    split
    next hl => rw [← hl]; exact hactive
    next => exact hactive
  · exact hleave hactive

theorem lanesAct_keepsPlaces (l : LaneId) (job : Job) : s.KeepsPlaces (lanesAct l job s) := by
  unfold lanesAct
  simp only
  split
  · exact (laneAct_keepsPlaces l).trans (laneAct_keepsPlaces _)
  · exact laneAct_keepsPlaces l

theorem endActive_keepsPlaces {l : LaneId} {j : SlotId} (hactive : (s.lane l).active = some j) (st : Status) :
    s.KeepsPlaces (endActive l j st s) :=
  ((detachActive_keepsPlaces hactive st).trans (lanesAct_keepsPlaces _ _)).trans (finishDraining_keepsPlaces _)

theorem endPending_keepsPlaces {l : LaneId} {j : SlotId} (hmem : j ∈ (s.lane l).queue) (st : Status) :
    s.KeepsPlaces (endPending l j st s) :=
  ((detachPending_keepsPlaces hmem st).trans (finishDraining_keepsPlaces _)).trans (laneAct_keepsPlaces _)

/-- A PENDING job stands in its queue, and an ACTIVE one is active, on its staging lane (R50, R53). -/
theorem State.JobsPlaced.mem_queue (hs : s.JobsPlaced) {j : SlotId} {l : LaneId} (hlane : (s.slot j).stagingLane = some l)
    (hstate : (s.slot j).state = .pending) : j ∈ (s.lane l).queue := by
  obtain ⟨m, hm, hmem⟩ := hs.pending j hstate
  obtain rfl := Option.some.inj (hm.symm.trans hlane)
  exact hmem

theorem State.JobsPlaced.active_on (hs : s.JobsPlaced) {j : SlotId} {l : LaneId} (hlane : (s.slot j).stagingLane = some l)
    (hstate : (s.slot j).state = .active) : (s.lane l).active = some j := by
  obtain ⟨m, hm, hactive⟩ := hs.active j hstate
  obtain rfl := Option.some.inj (hm.symm.trans hlane)
  exact hactive

/-! ### Records -/

/-- A lane and a slot of it change together as a record of the job comes or goes. -/
theorem countsRecords_of_mod {l : LaneId} {j : SlotId} {f : Lane → Lane} {g : Slot → Slot}
    (hlane : (f (s.lane l)).queue = (s.lane l).queue ∧ (f (s.lane l)).active = (s.lane l).active)
    (hslot : (s.slot j).SamePlace { g (s.slot j) with outstanding := (s.slot j).outstanding })
    (home : ((s.slot j).state = .active ∨ (s.slot j).state = .draining) ∧ (s.slot j).stagingLane = some l)
    (others : (f (s.lane l)).records.filter (fun r => r.slot != j) = (s.lane l).records.filter fun r => r.slot != j)
    (outstanding : (g (s.slot j)).outstanding.toNat = (f (s.lane l)).records.countP fun r => r.slot == j) :
    s.CountsRecords ((s.modLane l f).modSlot j g) l j := by
  have hlane' : ((s.modLane l f).modSlot j g).lane l = f (s.lane l) := State.lane_modLane_self s l f
  have hself : ((s.modLane l f).modSlot j g).slot j = g (s.slot j) := State.slot_modSlot_self _ j g
  exact
    { fetch := rfl
      lanes := fun m hm => by
        have hother : ((s.modLane l f).modSlot j g).lane m = s.lane m := State.lane_modLane_ne s f hm
        rw [hother]
        exact .refl _
      slots := fun i hi => by rw [State.slot_modSlot_ne _ g hi]; exact .refl _
      queue := by rw [hlane']; exact hlane.1
      active := by rw [hlane']; exact hlane.2
      state := by rw [hself]; exact hslot.state
      stagingLane := by rw [hself]; exact hslot.stagingLane
      wait := by rw [hself]; exact hslot.wait
      owes := by rw [hself]; exact hslot.owes
      home := home
      others := by rw [hlane']; exact others
      outstanding := by rw [hlane', hself]; exact outstanding }

/-- A measurement that is staged becomes a record of its job; at most 4 others stand on the lane then (R70, R72). -/
theorem stageOrLose_keepsPlaces {l : LaneId} {j : SlotId} (hactive : (s.lane l).active = some j) (index : BitVec 64)
    (m : Measurement) (flags : MeasFlags) : s.KeepsPlaces (stageOrLose l j index m flags s) := by
  intro hs
  unfold stageOrLose
  simp only
  split
  next b hb =>
    obtain ⟨-, -, hroom⟩ := stagingBuffer_eq_some hb
    obtain ⟨hstate, hlane⟩ := hs.running l j hactive
    have hcount := hs.outstanding_on hlane
    have hfew : (s.lane l).records.length ≤ Config.stagingDepth := by
      have hslot : (s.lane l).writeSlot.toList.length ≤ 1 := by cases (s.lane l).writeSlot <;> simp
      rw [Lane.records, List.length_append]
      omega
    have hreserve (x : Slot) : (reservePlace b x).outstanding = x.outstanding + 1 := by
      unfold reservePlace
      simp only
      split <;> rfl
    have hsame (x : Slot) : x.SamePlace { reservePlace b x with outstanding := x.outstanding } := by
      unfold reservePlace
      simp only
      split <;> exact ⟨rfl, rfl, rfl, id, id⟩
    refine (countsRecords_of_mod (f := fun y => { y with fifo := y.fifo ++ [formRecord j (s.slot j) b index m flags] })
      ⟨rfl, rfl⟩ (hsame _) ⟨.inl hstate, hlane⟩ ?_ ?_).keepsPlaces hs
    · have hself : (formRecord j (s.slot j) b index m flags).slot = j := rfl
      simp [Lane.records, List.filter_append, hself]
    · have hself : (formRecord j (s.slot j) b index m flags).slot = j := rfl
      have hle : (s.lane l).records.countP (fun r => r.slot == j) ≤ (s.lane l).records.length := List.countP_le_length
      have hadd : (s.slot j).outstanding.toNat + 1 < 2 ^ 8 := by
        have : Config.stagingDepth = 4 := rfl
        omega
      rw [hreserve, BitVec.toNat_add_of_lt (by simpa using hadd), hcount]
      simp [Lane.records, List.countP_append, hself, Nat.add_assoc]
  next => exact modSlot_keepsPlaces_of_same ⟨rfl, rfl, rfl, id, id⟩ hs

theorem accountProduction_keepsPlaces {l : LaneId} {j : SlotId} (hactive : (s.lane l).active = some j) (m : Measurement)
    (flags : MeasFlags) : s.KeepsPlaces (accountProduction l j m flags s) := by
  unfold accountProduction
  exact (modSlot_keepsPlaces_of_same ⟨rfl, rfl, rfl, id, id⟩).trans (stageOrLose_keepsPlaces (by exact hactive) _ _ _)

theorem setContext_keepsPlaces (l : LaneId) (c : Context) : s.KeepsPlaces (setContext l c s) :=
  modLane_keepsPlaces ⟨rfl, rfl, rfl⟩

theorem produce_keepsPlaces {l : LaneId} {j : SlotId} (hactive : (s.lane l).active = some j) (m : Measurement)
    (next : Context) : s.KeepsPlaces (produce l j m next s) := by
  unfold produce
  simp only
  split
  · refine (accountProduction_keepsPlaces hactive _ _).trans (endActive_keepsPlaces ?_ _)
    obtain ⟨fifo, hlane⟩ := accountProduction_lane (s := s) l l j m
      (measurementFlags (jobOf s j) m.value m.overflow m.edgeSeen)
    rw [hlane]
    exact hactive
  · exact (accountProduction_keepsPlaces hactive _ _).trans (setContext_keepsPlaces _ _)

end

end Sys2Proof.Machine
end

section
/-! SUPPORT. Every move keeps the jobs placed where lanes are sound (`Move.placed`), and so does every step (sections 3.1,
3.3, 3.5, 4.1 and 4.6). -/

namespace Sys2Proof.Machine

-- One proof at a time: every thread reserves memory of its own, and the check bounds the whole.
set_option Elab.async false

section
variable {s : State}

/-! ### Arrivals and expiries -/

theorem takeExpiry_keepsPlaces (l : LaneId) : s.KeepsPlaces (takeExpiry l s) := by
  unfold takeExpiry
  split
  next c j _ hactive =>
    simp only
    split
    · exact .refl s
    · split
      · exact produce_keepsPlaces hactive _ _
      · exact produce_keepsPlaces hactive _ _
  · exact .refl s

theorem takeExpiriesUpTo_keepsPlaces (k : Nat) (l : LaneId) (t : Stamp) :
    ∀ s : State, s.KeepsPlaces (takeExpiriesUpTo k l t s) := by
  induction k with
  | zero => exact .refl
  | succ k ih =>
    intro s
    unfold takeExpiriesUpTo
    split
    · exact .refl s
    · split
      · exact (takeExpiry_keepsPlaces l).trans (ih _)
      · exact .refl s

theorem takeExpiriesBefore_keepsPlaces (l : LaneId) (t : Stamp) : s.KeepsPlaces (takeExpiriesBefore l t s) :=
  takeExpiriesUpTo_keepsPlaces _ _ _ s

theorem takeStart_keepsPlaces (j : SlotId) : s.KeepsPlaces (takeStart j s) :=
  modSlot_keepsPlaces_of_same ⟨rfl, rfl, rfl, id, id⟩

section
variable {l : LaneId} {j : SlotId} (hactive : (s.lane l).active = some j)
include hactive

theorem widthArrival_keepsPlaces (c : Context) (a : Arrival) : s.KeepsPlaces (widthArrival l j c a s) := by
  unfold widthArrival
  simp only
  split
  · split
    · exact (setContext_keepsPlaces _ _).trans (takeStart_keepsPlaces _)
    · exact .refl s
  · split
    · exact produce_keepsPlaces hactive _ _
    · exact .refl s
  · exact .refl s

theorem cyclesArrival_keepsPlaces (c : Context) (a : Arrival) : s.KeepsPlaces (cyclesArrival l j c a s) := by
  unfold cyclesArrival
  simp only
  split
  · split
    · exact (setContext_keepsPlaces _ _).trans (takeStart_keepsPlaces _)
    · split
      · exact produce_keepsPlaces hactive _ _
      · exact setContext_keepsPlaces _ _
    · exact .refl s
  · exact .refl s

theorem spanArrival_keepsPlaces (src : LaneId) (c : Context) (a : Arrival) :
    s.KeepsPlaces (spanArrival l j src c a s) := by
  unfold spanArrival
  simp only
  split
  · split
    · exact (setContext_keepsPlaces _ _).trans (takeStart_keepsPlaces _)
    · exact .refl s
  · split
    · exact produce_keepsPlaces hactive _ _
    · exact .refl s
  · exact .refl s

end

theorem windowArrival_keepsPlaces (l : LaneId) (j : SlotId) (c : Context) (a : Arrival) :
    s.KeepsPlaces (windowArrival l j c a s) := by
  unfold windowArrival
  simp only
  split
  · split
    · exact (setContext_keepsPlaces _ _).trans (takeStart_keepsPlaces _)
    · exact .refl s
  · exact setContext_keepsPlaces _ _
  · exact .refl s

theorem arrivalAtContext_keepsPlaces (l src : LaneId) (a : Arrival) : s.KeepsPlaces (arrivalAtContext l src a s) := by
  unfold arrivalAtContext
  split
  next c j _ hactive =>
    split
    · exact .refl s
    · split
      · exact widthArrival_keepsPlaces hactive _ _
      · exact cyclesArrival_keepsPlaces hactive _ _
      · exact spanArrival_keepsPlaces hactive _ _ _
      · exact windowArrival_keepsPlaces _ _ _ _
      · exact windowArrival_keepsPlaces _ _ _ _
  · exact .refl s

theorem arrivalNow_keepsPlaces (l : LaneId) (a : Arrival) : s.KeepsPlaces (arrivalNow l a s) := by
  unfold arrivalNow
  split
  · exact .refl s
  · exact arrivalAtContext_keepsPlaces _ _ _

theorem takeAligned_keepsPlaces (l : LaneId) : s.KeepsPlaces (takeAligned l s) := by
  unfold takeAligned
  split
  · split
    · exact .refl s
    · split
      · simp only
        split
        · exact ((setContext_keepsPlaces _ _).trans (takeExpiriesBefore_keepsPlaces _ _)).trans
            (arrivalAtContext_keepsPlaces _ _ _)
        · exact ((setContext_keepsPlaces _ _).trans (takeExpiriesBefore_keepsPlaces _ _)).trans
            (arrivalNow_keepsPlaces _ _)
      · exact .refl s
  · exact .refl s

theorem takeAlignedUpTo_keepsPlaces (k : Nat) (l : LaneId) : ∀ s : State, s.KeepsPlaces (takeAlignedUpTo k l s) := by
  induction k with
  | zero => exact .refl
  | succ k ih => exact fun s => (takeAligned_keepsPlaces l).trans (ih _)

theorem takeArrival_keepsPlaces (l : LaneId) (a : Arrival) : s.KeepsPlaces (takeArrival l a s) := by
  unfold takeArrival
  split
  · exact .refl s
  · split
    · split
      · exact .refl s
      · split
        · simp only
          split
          · exact (setContext_keepsPlaces _ _).trans (takeAlignedUpTo_keepsPlaces _ _ _)
          · exact setContext_keepsPlaces _ _
        · exact (takeExpiriesBefore_keepsPlaces _ _).trans (arrivalNow_keepsPlaces _ _)
    · exact .refl s

theorem takeStartLimit_keepsPlaces (j : SlotId) : s.KeepsPlaces (takeStartLimit j s) := by
  intro hs
  unfold takeStartLimit
  split
  · exact hs.kept
  next l hlane =>
    split
    next hstate => exact endPending_keepsPlaces (hs.mem_queue hlane hstate) _ hs
    next hstate => exact endActive_keepsPlaces (hs.active_on hlane hstate) _ hs
    · exact hs.kept

theorem passVector_keepsPlaces (v : Vec) : s.KeepsPlaces (passVector v s) := by
  unfold passVector
  split
  · exact .refl s
  · exact keepsPlaces_of_same rfl rfl rfl

theorem requestMessage_keepsPlaces (n : RingId) : s.KeepsPlaces (requestMessage n s) := by
  unfold requestMessage
  split
  · exact passVector_keepsPlaces _
  · exact modPoster_keepsPlaces _ _

theorem takeCoalescing_keepsPlaces (n : RingId) : s.KeepsPlaces (takeCoalescing n s) := by
  unfold takeCoalescing
  split
  · exact (modPoster_keepsPlaces n _).trans (requestMessage_keepsPlaces n)
  · exact .refl s

theorem countPosted_keepsPlaces (n : RingId) : s.KeepsPlaces (countPosted n s) := by
  have hposter (p : Poster) : s.KeepsPlaces (s.setPoster n p) := keepsPlaces_of_same rfl rfl rfl
  unfold countPosted
  simp only
  split
  · exact (hposter _).trans (requestMessage_keepsPlaces n)
  · split <;> exact hposter _

theorem sendPendingMessages_keepsPlaces : s.KeepsPlaces (sendPendingMessages s) := by
  refine .foldl _ (fun s n => ?_) _ s
  split
  · exact (modPoster_keepsPlaces n _).trans (passVector_keepsPlaces _)
  · exact .refl s

theorem raiseEvent_keepsPlaces (e : EventReport) : s.KeepsPlaces (raiseEvent e s) := by
  unfold raiseEvent
  split <;> exact keepsPlaces_of_same rfl rfl rfl

/-! ### Completions -/

theorem clearMarks_keepsPlaces (l : LaneId) (gone : List ResultRecord) : s.KeepsPlaces (clearMarks l gone s) := by
  unfold clearMarks
  exact (modLane_keepsPlaces ⟨rfl, rfl, rfl⟩).trans (.foldl _ (fun s (m : DrainMark) => lowerHold_keepsPlaces m.holder) _ _)

theorem clearMarks_stagingLane (l : LaneId) (gone : List ResultRecord) (j : SlotId) :
    ((clearMarks l gone s).slot j).stagingLane = (s.slot j).stagingLane := by
  unfold clearMarks
  exact (State.ReportsOnly.foldl (fun s (m : DrainMark) => lowerHold m.holder s)
    (fun s (m : DrainMark) => lowerHold_reportsOnly m.holder) _ _).stagingLane j

/-- The record in a write slot is of a job that is ACTIVE or DRAINING and has it outstanding (R70, R85). -/
theorem State.JobsPlaced.holdsRecords (hs : s.JobsPlaced) {l : LaneId} {r : ResultRecord}
    (hwrite : (s.lane l).writeSlot = some r) :
    ((s.slot r.slot).state = .active ∨ (s.slot r.slot).state = .draining) ∧ (s.slot r.slot).stagingLane = some l :=
  hs.records l r (by simp [Lane.records, hwrite])

theorem holdsRecords_iff (x : Slot) : holdsRecords x = true ↔ x.state = .active ∨ x.state = .draining := by
  simp [holdsRecords]

/-- A record leaves the write slot, and its slot counts it no more (R77). -/
theorem takeWrite_keepsPlaces {l : LaneId} {r : ResultRecord} (hwrite : (s.lane l).writeSlot = some r) :
    s.KeepsPlaces ((s.modLane l fun x => { x with writeSlot := none }).modSlot r.slot fun x =>
      { x with written := x.written + 1, landed := x.landed + 1, outstanding := x.outstanding - 1 }) := by
  intro hs
  have home := hs.holdsRecords hwrite
  have hcount := hs.outstanding_on home.2
  have hrecords : (s.lane l).records = r :: (s.lane l).fifo := by simp [Lane.records, hwrite]
  refine (countsRecords_of_mod ⟨rfl, rfl⟩ ⟨rfl, rfl, rfl, id, id⟩ home ?_ ?_).keepsPlaces hs
  · simp [Lane.records, hwrite]
  · rw [hrecords, List.countP_cons_of_pos (by simp)] at hcount
    have hpos : 1 ≤ (s.slot r.slot).outstanding := by
      rw [BitVec.le_def, hcount]
      exact Nat.le_add_left 1 _
    rw [BitVec.toNat_sub_of_le hpos, hcount]
    rfl

theorem landRest_keepsPlaces (j : SlotId) (b : Buffer) :
    s.KeepsPlaces (reportRetirement j b
      (s.modSlot j fun x => { dropOldest x with landed := 0, buffersRetired := satInc x.buffersRetired })) := by
  refine State.KeepsPlaces.trans (modSlot_keepsPlaces_of_same ?_) (reportRetirement_keepsPlaces _ _)
  unfold dropOldest
  split <;> exact ⟨rfl, rfl, rfl, id, id⟩

theorem takeRecordCompletion_keepsPlaces (l : LaneId) : s.KeepsPlaces (takeRecordCompletion l s) := by
  intro hs
  unfold takeRecordCompletion
  split
  · exact hs.kept
  next r hwrite =>
    have hholds := (holdsRecords_iff _).mpr (hs.holdsRecords hwrite).1
    simp only [hholds, if_true]
    refine ((State.KeepsPlaces.trans ?_ (clearMarks_keepsPlaces _ _)).trans (finishDraining_keepsPlaces _)) hs
    unfold landRecord
    simp only
    split
    · exact takeWrite_keepsPlaces hwrite
    · split
      · exact (takeWrite_keepsPlaces hwrite).trans (landRest_keepsPlaces _ _)
      · exact takeWrite_keepsPlaces hwrite

/-- All records of a job leave its lane, and its slot counts none (R82). -/
theorem discard_keepsPlaces {l : LaneId} {r : ResultRecord} (hwrite : (s.lane l).writeSlot = some r) :
    s.KeepsPlaces ((s.modLane l fun x =>
        { x with writeSlot := none, fifo := x.fifo.filter fun q => !(q.slot == r.slot) }).modSlot r.slot
      (countDiscarded (r :: (s.lane l).fifo.filter fun q => q.slot == r.slot).length)) := by
  intro hs
  have home := hs.holdsRecords hwrite
  have hcount := hs.outstanding_on home.2
  have hrecords : (s.lane l).records = r :: (s.lane l).fifo := by simp [Lane.records, hwrite]
  refine (countsRecords_of_mod ⟨rfl, rfl⟩ ⟨rfl, rfl, rfl, id, id⟩ home ?_ ?_).keepsPlaces hs
  · simp [Lane.records, hwrite, List.filter_filter, bne]
  · have hgone : (r :: (s.lane l).fifo.filter fun q => q.slot == r.slot).length = (s.slot r.slot).outstanding.toNat := by
      rw [hcount, hrecords, List.countP_cons_of_pos (by simp), List.length_cons, List.countP_eq_length_filter]
    rw [countDiscarded, hgone, BitVec.ofNat_toNat, BitVec.setWidth_eq, BitVec.sub_self]
    refine (List.countP_eq_zero.mpr fun q hq => ?_).symm
    simpa using (List.mem_filter.mp hq).2

theorem takeRecordFault_keepsPlaces (l : LaneId) : s.KeepsPlaces (takeRecordFault l s) := by
  intro hs
  unfold takeRecordFault
  split
  · exact hs.kept
  next r hwrite =>
    obtain ⟨hstate, hlane⟩ := hs.holdsRecords hwrite
    have hholds := (holdsRecords_iff _).mpr hstate
    simp only [hholds, if_true]
    have hmarks := (discard_keepsPlaces hwrite).trans
      (clearMarks_keepsPlaces l (r :: (s.lane l).fifo.filter fun q => q.slot == r.slot))
    split
    next hactive =>
      refine (hmarks.and_then fun _ hplaced => endActive_keepsPlaces (hplaced.active_on ?_ hactive) _ hplaced) hs
      rw [clearMarks_stagingLane, State.slot_modSlot_self]
      exact hlane
    · exact hmarks.trans (finishDraining_keepsPlaces _) hs

theorem takeReportCompletion_keepsPlaces (n : RingId) : s.KeepsPlaces (takeReportCompletion n s) := by
  unfold takeReportCompletion
  split
  · exact .refl s
  · simp only
    split
    · have hevent {u : State} : u.KeepsPlaces { u with events := u.events.tail } := keepsPlaces_of_same rfl rfl rfl
      exact ((modPoster_keepsPlaces n _).trans hevent).trans (countPosted_keepsPlaces n)
    · exact ((modPoster_keepsPlaces n _).trans (dropHead_keepsPlaces n)).trans (countPosted_keepsPlaces n)

theorem takeReportFault_keepsPlaces (n : RingId) : s.KeepsPlaces (takeReportFault n s) := by
  unfold takeReportFault
  split
  · exact .refl s
  · exact ((modPoster_keepsPlaces n _).trans (dropHeads_keepsPlaces _ _ _)).trans (raiseEvent_keepsPlaces _)

/-! ### Fetched entries -/

/-- A slot that holds an entry just fetched: FETCHING, with no read in flight any more (R115). -/
structure State.Arrived (s : State) (j : SlotId) : Prop where
  placed : s.JobsPlaced
  fetch : s.fetch = none
  state : (s.slot j).state = .fetching

/-- What keeps the places leaves the entry in its slot. -/
theorem State.Arrived.keep {t : State} {j : SlotId} (hs : s.Arrived j) (h : s.KeepsPlaces t) : t.Arrived j :=
  have hkept := h hs.placed
  ⟨hkept.placed, hkept.fetch.trans hs.fetch, hkept.fetching j hs.state⟩

theorem State.Arrived.answer {j : SlotId} (hs : s.Arrived j) (st : Status) (body : FinalBody) :
    (Machine.answer j st body s).JobsPlaced := hs.placed.answer hs.state hs.fetch st body

/-- An entry that waits for others (R92, R99, R156). -/
theorem State.Arrived.wait {j : SlotId} (hs : s.Arrived j) (wait : Wait) :
    (s.modSlot j fun x => { x with state := .waiting, wait := wait }).JobsPlaced :=
  have hold := hs.placed.unplaced_of hs.state (.inr (.inl rfl))
  hs.placed.modSlot hold ⟨(nomatch ·), (nomatch ·), hold.outstanding⟩
    ⟨fun _ => rfl, fun h => absurd h (hs.placed.not_owes (by rw [hs.state]; exact (nomatch ·)))⟩ (by simp [hs.fetch])

/-- An accepted job takes the last place of its lane's queue (R50). -/
theorem State.Arrived.enqueue {j : SlotId} (hs : s.Arrived j) (e : MeasEntry) {l : LaneId} {f : Lane → Lane}
    (hf : ∀ x : Lane, (f x).active = x.active ∧ (f x).records = x.records)
    (hqueue : (f (s.lane l)).queue = (s.lane l).queue ++ [j]) :
    ((s.modLane l f).modSlot j (acceptedSlot e l s.timebase)).JobsPlaced := by
  obtain ⟨hplaced, hfetch, hstate⟩ := hs
  have hold := hplaced.unplaced_of hstate (.inr (.inl rfl))
  have hnot : j ∉ (s.lane l).queue := fun hq => nomatch hstate.symm.trans (hplaced.queued l j hq).1
  have hmove : Relocation l j (s.lane l) (f (s.lane l)) (s.slot j) (acceptedSlot e l s.timebase (s.slot j)) :=
    { queue := fun i hi => by simp [hqueue, hi]
      once := by
        rw [hqueue]
        exact List.nodup_append.mpr ⟨hplaced.once l, List.nodup_singleton j, fun a ha b hb hab => hnot (by simp_all)⟩
      active := fun i hi => by rw [(hf _).1]
      records := (hf _).2
      left := fun h => (h.elim hold.pending hold.active).elim
      pending := ⟨fun _ => rfl, fun _ => by simp [hqueue]⟩
      running := by
        rw [(hf _).1]
        exact ⟨fun ha => (nomatch hstate.symm.trans (hplaced.running l j ha).1), (nomatch ·)⟩
      taken := fun _ => rfl
      held := fun h => absurd hold.outstanding h
      outstanding := rfl
      waiting := fun h => absurd (hplaced.wait_none (by rw [hstate]; exact (nomatch ·))) h
      owing := fun h => absurd h (hplaced.not_owes (by rw [hstate]; exact (nomatch ·))) }
  exact (relocates_of_mod hmove (by simp [hfetch])).placed hplaced

theorem acceptOffer_placed (r : RingId) {j : SlotId} (hs : s.Arrived j) (e : MeasEntry) (l : LaneId) :
    (acceptOffer r j e l s).JobsPlaced := by
  unfold acceptOffer
  simp only
  split
  next halone =>
    have hqueue : (s.lane l).queue = [] := by simpa using halone
    have hqueued := hs.enqueue e (l := l) (f := fun x => { x with queue := [j], loanPhase := .idle, partnerMark := false })
      (fun x => ⟨rfl, rfl⟩) (by rw [hqueue]; rfl)
    refine (laneAct_keepsPlaces l (State.SamePlaces.placed (State.SamePlaces.of_same ?_ ?_ ?_) hqueued)).placed <;> rfl
  next =>
    have hqueued := hs.enqueue e (l := l) (f := fun x => { x with queue := x.queue ++ [j] }) (fun x => ⟨rfl, rfl⟩) rfl
    refine State.SamePlaces.placed (State.SamePlaces.of_same ?_ ?_ ?_) hqueued <;> rfl

theorem dispatchMeasurement_placed (kind : MeasKind) (e : MeasEntry) (r : RingId) {j : SlotId} (hs : s.Arrived j) :
    (dispatchMeasurement kind e r j s).JobsPlaced := by
  unfold dispatchMeasurement
  split
  · exact hs.answer _ _
  · split
    · exact hs.answer _ _
    · split
      · exact hs.answer _ _
      · exact acceptOffer_placed r hs e _

theorem dispatchAddBuffer_placed (e : AddBufferEntry) (r : RingId) {j : SlotId} (hs : s.Arrived j) :
    (dispatchAddBuffer e r j s).JobsPlaced := by
  unfold dispatchAddBuffer
  split
  · exact hs.answer _ _
  · split
    · exact hs.answer _ _
    · split
      · exact hs.answer _ _
      · split
        · exact hs.answer _ _
        · split
          · exact hs.answer _ _
          · refine (hs.keep (modSlot_keepsPlaces_of_same ?_)).answer _ _
            unfold appendBuffer
            split <;> exact ⟨rfl, rfl, rfl, id, id⟩

/-! ### Control requests -/

theorem openReportRing_placed (e : OpenReportRingEntry) {j : SlotId} (hs : s.Arrived j) :
    (openReportRing e j s).JobsPlaced := by
  unfold openReportRing
  split
  · exact hs.answer _ _
  · exact (hs.keep (modPoster_keepsPlaces _ _)).answer _ _

theorem closeReportRing_placed (e : CloseRingEntry) {j : SlotId} (hs : s.Arrived j) :
    (closeReportRing e j s).JobsPlaced := by
  unfold closeReportRing
  split
  · exact hs.answer _ _
  · exact (hs.keep (modPoster_keepsPlaces _ _)).answer _ _

theorem openJobRing_placed (e : OpenJobRingEntry) {j : SlotId} (hs : s.Arrived j) : (openJobRing e j s).JobsPlaced := by
  unfold openJobRing
  split
  · exact hs.answer _ _
  · exact (hs.keep (modJobRing_keepsPlaces _ _)).answer _ _

theorem closePending_keepsPlaces (r : RingId) (j : SlotId) : s.KeepsPlaces (closePending r j s) := by
  intro hs
  unfold closePending
  split
  · exact hs.kept
  next l hlane =>
    split
    next hstate =>
      exact (detachPending_keepsPlaces (hs.mem_queue hlane hstate.1) _).trans (finishDraining_keepsPlaces _) hs
    · exact hs.kept

theorem closeActive_keepsPlaces (r : RingId) (j : SlotId) : s.KeepsPlaces (closeActive r j s) := by
  intro hs
  unfold closeActive
  split
  · exact hs.kept
  next l hlane =>
    split
    next hstate =>
      exact (detachActive_keepsPlaces (hs.active_on hlane hstate.1) _).trans (finishDraining_keepsPlaces _) hs
    · exact hs.kept

theorem releaseClaims_keepsPlaces (r : RingId) : s.KeepsPlaces (releaseClaims r s) := by
  refine .foldl _ (fun s l => ?_) _ s
  split
  · exact modLane_keepsPlaces ⟨rfl, rfl, rfl⟩
  · exact .refl s

theorem closeRingWork_keepsPlaces (r : RingId) : s.KeepsPlaces (closeRingWork r s) := by
  unfold closeRingWork changedLanesAct
  simp only
  refine State.KeepsPlaces.trans ?_ (.foldl _ (fun s l => laneAct_keepsPlaces l) _ _)
  refine State.KeepsPlaces.trans ?_ (releaseClaims_keepsPlaces r)
  refine State.KeepsPlaces.trans ?_ (.foldl _ (fun s j => closeActive_keepsPlaces r j) _ _)
  refine State.KeepsPlaces.trans ?_ (.foldl _ (fun s j => closePending_keepsPlaces r j) _ _)
  exact modJobRing_keepsPlaces r _

/-- A close that waits for nothing is answered (R156). -/
theorem State.Arrived.completeClose {j : SlotId} (hs : s.Arrived j) (r : RingId) (ended waited : Nat) :
    (Machine.completeClose r j ended waited s).JobsPlaced := by
  unfold Machine.completeClose
  have hring := hs.keep (modJobRing_keepsPlaces r fun q => { q with state := .closed, closer := none })
  refine (pushReport_keepsPlaces (.inr ?_) (hring.placed.posted hring.state (.inr rfl) (by simp [hs.fetch]) .ok)).placed
  rw [State.slot_modSlot_self]

theorem closeJobRing_placed (e : CloseRingEntry) {j : SlotId} (hs : s.Arrived j) : (closeJobRing e j s).JobsPlaced := by
  unfold closeJobRing
  split
  · exact hs.answer _ _
  next r _ =>
    have hwork := hs.keep (closeRingWork_keepsPlaces r)
    simp only
    generalize closeRingWork r s = u at hwork ⊢
    split
    · exact hwork.completeClose _ _ _
    · exact (modJobRing_keepsPlaces r _ (hwork.wait _)).placed

theorem setLane_entry_placed (e : SetLaneEntry) {j : SlotId} (hs : s.Arrived j) : (setLane e j s).JobsPlaced := by
  unfold setLane
  split
  · exact hs.answer _ _
  · exact (hs.keep (modLane_keepsPlaces ⟨rfl, rfl, rfl⟩)).answer _ _

theorem claimLane_placed (e : ClaimLaneEntry) {j : SlotId} (hs : s.Arrived j) : (claimLane e j s).JobsPlaced := by
  unfold claimLane
  split
  · exact hs.answer _ _
  · exact (hs.keep (modLane_keepsPlaces ⟨rfl, rfl, rfl⟩)).answer _ _

theorem setMark_keepsPlaces (j : SlotId) (l : LaneId) : s.KeepsPlaces (setMark j l s) := by
  unfold setMark
  split
  · exact .refl s
  · exact modLane_keepsPlaces ⟨rfl, rfl, rfl⟩

theorem holdNotice_keepsPlaces (p : LaneId) (loan : Loan) : s.KeepsPlaces (holdNotice p loan s) := by
  unfold holdNotice
  simp only
  split
  · exact modLane_keepsPlaces ⟨rfl, rfl, rfl⟩
  · split
    · exact modLane_keepsPlaces ⟨rfl, rfl, rfl⟩
    · exact .refl s

theorem withdrawHead_keepsPlaces (l : LaneId) : s.KeepsPlaces (withdrawHead l s) := by
  obtain ⟨q, hq⟩ := withdrawHead_eq s l
  rw [hq]
  have hlane : s.KeepsPlaces (s.modLane l fun x => { x with loanPhase := .idle, partnerMark := false }) :=
    modLane_keepsPlaces ⟨rfl, rfl, rfl⟩
  exact hlane.trans (keepsPlaces_of_same rfl rfl rfl)

theorem holdLanes_keepsPlaces (j : SlotId) (l : LaneId) : s.KeepsPlaces (holdLanes j l s) := by
  have hheld : s.KeepsPlaces (withdrawHead l (holdLaneContext l (s.modLane l fun x => { x with hold := true }))) :=
    ((modLane_keepsPlaces ⟨rfl, rfl, rfl⟩).trans (modLane_keepsPlaces ⟨rfl, rfl, rfl⟩)).trans (withdrawHead_keepsPlaces l)
  unfold holdLanes
  simp only
  refine State.KeepsPlaces.trans ?_ (.foldl _ (fun s m => setMark_keepsPlaces j m) _ _)
  split
  · exact hheld
  · exact hheld.trans (holdNotice_keepsPlaces _ _)

theorem holdLane_placed (e : LaneEntry) {j : SlotId} (hs : s.Arrived j) : (holdLane e j s).JobsPlaced := by
  unfold holdLane
  split
  · exact hs.answer _ _
  next l _ =>
    split
    · exact hs.answer _ _
    · have hheld := hs.keep (holdLanes_keepsPlaces j l)
      simp only
      split
      · exact hheld.answer _ _
      · exact hheld.wait _

theorem resumeLane_keepsPlaces (l : LaneId) : s.KeepsPlaces (resumeLane l s) := by
  unfold resumeLane
  split
  · exact .refl s
  · exact modLane_keepsPlaces ⟨rfl, rfl, rfl⟩

theorem releaseNotice_keepsPlaces (p : LaneId) (loan : Loan) : s.KeepsPlaces (releaseNotice p loan s) := by
  unfold releaseNotice
  simp only
  split
  · exact modLane_keepsPlaces ⟨rfl, rfl, rfl⟩
  · split
    · exact modLane_keepsPlaces ⟨rfl, rfl, rfl⟩
    · exact .refl s

theorem clearHold_keepsPlaces (l : LaneId) : s.KeepsPlaces (clearHold l s) := by
  unfold clearHold
  simp only
  split
  · exact modLane_keepsPlaces ⟨rfl, rfl, rfl⟩
  · exact (modLane_keepsPlaces ⟨rfl, rfl, rfl⟩).trans (releaseNotice_keepsPlaces _ _)

theorem releaseLane_placed (e : LaneEntry) {j : SlotId} (hs : s.Arrived j) : (releaseLane e j s).JobsPlaced := by
  unfold releaseLane
  split
  · exact hs.answer _ _
  · split
    · refine (hs.keep ?_).answer _ _
      refine State.KeepsPlaces.trans ?_ (laneAct_keepsPlaces _)
      split
      · exact clearHold_keepsPlaces _
      · exact (clearHold_keepsPlaces _).trans (resumeLane_keepsPlaces _)
    · exact hs.answer _ _

/-- A CANCEL_JOB waits for a job that waits or runs (R98, R99). -/
theorem awaitTarget_placed (e : JobNameEntry) {j t : SlotId} (hs : s.Arrived j) : (awaitTarget e j t s).JobsPlaced := by
  unfold awaitTarget
  exact (modSlot_keepsPlaces_of_same ⟨rfl, rfl, rfl, id, id⟩ (hs.wait _)).placed

theorem awaitTarget_slot (e : JobNameEntry) {j t : SlotId} (h : t ≠ j) :
    (awaitTarget e j t s).slot t = { s.slot t with cancelWaiter := some j } := by
  unfold awaitTarget
  rw [State.slot_modSlot_self, State.slot_modSlot_ne _ _ h]

theorem cancelJob_placed (e : JobNameEntry) {j : SlotId} (hs : s.Arrived j) : (cancelJob e j s).JobsPlaced := by
  unfold cancelJob
  split
  · exact hs.answer _ _
  · exact hs.answer _ _
  next t _ =>
    have hwait := awaitTarget_placed e (t := t) hs
    simp only
    split
    next hstate =>
      obtain ⟨l, hlane, hmem⟩ := hs.placed.pending t hstate
      rw [hlane]
      exact (endPending_keepsPlaces (by exact hmem) _ hwait).placed
    next hstate =>
      obtain ⟨l, hlane, hactive⟩ := hs.placed.active t hstate
      rw [hlane]
      exact (endActive_keepsPlaces (by exact hactive) _ hwait).placed
    · exact hs.answer _ _

theorem peekJob_placed (e : JobNameEntry) {j : SlotId} (hs : s.Arrived j) : (peekJob e j s).JobsPlaced := by
  unfold peekJob
  split <;> exact hs.answer _ _

theorem ControlAct.placed {act : SlotId → State → State} (h : ControlAct act) {j : SlotId} (hs : s.Arrived j) :
    (act j s).JobsPlaced := by
  cases h with
  | openReportRing e => exact openReportRing_placed e hs
  | closeReportRing e => exact closeReportRing_placed e hs
  | openJobRing e => exact openJobRing_placed e hs
  | closeJobRing e => exact closeJobRing_placed e hs
  | setLane e => exact setLane_entry_placed e hs
  | claimLane e => exact claimLane_placed e hs
  | holdLane e => exact holdLane_placed e hs
  | releaseLane e => exact releaseLane_placed e hs
  | cancelJob e => exact cancelJob_placed e hs
  | peekJob e => exact peekJob_placed e hs

theorem EntryAct.placed {act : RingId → SlotId → State → State} (h : EntryAct act) (r : RingId) {j : SlotId}
    (hs : s.Arrived j) : (act r j s).JobsPlaced := by
  cases h with
  | measurement kind e => exact dispatchMeasurement_placed kind e r hs
  | addBuffer e => exact dispatchAddBuffer_placed e r hs
  | undefined => exact hs.answer _ _
  | control tag zeros h =>
    unfold controlEntry
    split
    · exact hs.answer _ _
    · split
      · exact hs.answer _ _
      · exact h.placed hs

/-- A read that has ended leaves its slot in FETCHING. -/
theorem State.JobsPlaced.arrived (hs : s.JobsPlaced) {f : FetchRecord} (hfetch : s.fetch = some f) :
    State.Arrived { s with fetch := none } f.slot := by
  obtain ⟨fetching, queued, once, running, pending, active, waiting, owing, records, outstanding⟩ := hs
  exact ⟨⟨fun _ h => (nomatch h), queued, once, running, pending, active, waiting, owing, records, outstanding⟩, rfl,
    fetching f hfetch⟩

theorem takeEntry_placed (e : Entry) {act : RingId → SlotId → State → State} (h : EntryAct act) (hs : s.JobsPlaced) :
    (takeEntry e act s).JobsPlaced := by
  unfold takeEntry
  split
  · exact hs
  next f hf =>
    split
    · exact h.placed f.ring (((hs.arrived hf).keep (modJobRing_keepsPlaces _ _)).keep
        (modSlot_keepsPlaces_of_same ⟨rfl, rfl, rfl, id, id⟩))
    · exact hs

theorem takeFetchFault_placed (hs : s.JobsPlaced) : (takeFetchFault s).JobsPlaced := by
  unfold takeFetchFault
  split
  · exact hs
  next f hf =>
    split
    · have harrived := (hs.arrived hf).keep (modJobRing_keepsPlaces f.ring fun q => { q with state := .faulted })
      have hold := harrived.placed.unplaced_of harrived.state (.inr (.inl rfl))
      refine (raiseEvent_keepsPlaces _ (harrived.placed.modSlot
        (f := fun x => { x with state := .free, reports := [] }) hold ⟨(nomatch ·), (nomatch ·), hold.outstanding⟩
        ⟨fun hwait => ?_, fun ⟨r, hr, _⟩ => (nomatch hr)⟩ (by simp))).placed
      exact absurd (harrived.placed.wait_none (by rw [harrived.state]; exact (nomatch ·))) hwait
    · exact hs

/-! ### The decisions that close an event -/

theorem movePointer_keepsPlaces (r : RingId) : s.KeepsPlaces (movePointer r s) := by
  unfold movePointer
  split
  · exact .refl s
  · split
    · exact .refl s
    · exact keepsPlaces_of_same rfl rfl rfl

/-- A read is issued into a FREE slot, which no lane names (R114). -/
theorem issueFetch_placed (r : RingId) {j : SlotId} (hs : s.JobsPlaced) (hfree : (s.slot j).state = .free) :
    (issueFetch r j s).JobsPlaced := by
  have hself : (issueFetch r j s).slot j = { state := .fetching, ring := r } := by
    unfold issueFetch
    split <;> exact State.slot_setSlot_self s j _
  have hother {i : SlotId} (hi : i ≠ j) : (issueFetch r j s).slot i = s.slot i := by
    unfold issueFetch
    split <;> exact State.slot_setSlot_ne s _ hi
  have hlanes (m : LaneId) : (issueFetch r j s).lane m = s.lane m := by
    unfold issueFetch
    split <;> rfl
  have hread : (issueFetch r j s).fetch = some { ring := r, index := (s.jobRing r).head, slot := j } := by
    unfold issueFetch
    split <;> rfl
  refine (hs.relocates (hs.unplaced_of hfree (.inr (.inr (.inr rfl)))) ?_ ?_ (fun m => ?_) (fun i hi => ?_) ?_).placed hs
  · rw [hself]; exact ⟨(nomatch ·), (nomatch ·), rfl⟩
  · rw [hself]; exact ⟨fun h => absurd rfl h, fun ⟨r, hr, _⟩ => (nomatch hr)⟩
  · rw [hlanes m]; exact .refl _
  · rw [hother hi]; exact .refl _
  · intro f hf
    rw [hread] at hf
    obtain rfl := Option.some.inj hf
    rw [if_pos rfl, hself]

theorem fetchDecision_placed (hs : s.JobsPlaced) : (fetchDecision s).JobsPlaced := by
  unfold fetchDecision
  split
  next hidle =>
    simp only [Bool.and_eq_true, Option.isNone_iff_eq_none] at hidle
    split
    next r j _ hlowest =>
      have hfree : (s.slot j).state = .free := (lowestFree_eq_some_iff.mp hlowest).1
      have hmoved := movePointer_keepsPlaces r hs
      refine issueFetch_placed r hmoved.placed ?_
      have hslot : (movePointer r s).slot j = s.slot j := by
        unfold movePointer
        split
        · rfl
        · split <;> rfl
      rw [hslot]
      exact hfree
    · exact hs
  · exact hs

/-- The record that a lane issues stays a record of the lane (R76). -/
theorem grantLane_keepsPlaces {l : LaneId} (hslot : (s.lane l).writeSlot = none) : s.KeepsPlaces (grantLane l s) := by
  unfold grantLane
  split
  · exact .refl s
  next r rest hfifo =>
    have hlane : s.KeepsPlaces (s.modLane l fun x => { x with fifo := rest, writeSlot := some r }) :=
      modLane_keepsPlaces ⟨rfl, rfl, by simp [Lane.records, hslot, hfifo]⟩
    exact hlane.trans (keepsPlaces_of_same rfl rfl rfl)

theorem grantPoster_keepsPlaces (n : RingId) : s.KeepsPlaces (grantPoster n s) := by
  unfold grantPoster
  split
  · exact keepsPlaces_of_same rfl rfl rfl
  · split
    · exact .refl s
    next j _ _ =>
      split
      · exact .refl s
      next r others hreports =>
        have hslot (filled : Report) (hfilled : filled.isFinal = r.isFinal) :
            s.KeepsPlaces (s.modSlot j fun x => { x with reports := filled :: others }) := by
          refine modSlot_keepsPlaces_of_same ⟨rfl, rfl, rfl, id, fun ⟨q, hq, hfinal⟩ => ?_⟩
          unfold Slot.Owes
          rw [hreports]
          obtain rfl | hq := List.mem_cons.mp hq
          · exact ⟨r, List.mem_cons_self, hfilled ▸ hfinal⟩
          · exact ⟨q, List.mem_cons_of_mem _ hq, hfinal⟩
        exact (hslot { r with inFlight := true, sequence := (s.poster n).sequence + 1, ringHead := headField s r.ring }
          rfl).trans (keepsPlaces_of_same rfl rfl rfl)

theorem grantGenerator_keepsPlaces : s.KeepsPlaces (grantGenerator s) := by
  unfold grantGenerator
  split
  · exact .refl s
  · exact keepsPlaces_of_same rfl rfl rfl

theorem portDecision_keepsPlaces : s.KeepsPlaces (portDecision s) := by
  unfold portDecision
  split
  · split
    · exact .refl s
    next k hk =>
      have hstands := List.find?_some hk
      have hposition : s.KeepsPlaces { s with port := { s.port with position := k } } := keepsPlaces_of_same rfl rfl rfl
      unfold requestStands at hstands
      unfold grantAt
      simp only
      split
      next hlane =>
        rw [dif_pos hlane] at hstands
        simp only [laneRequests, Bool.and_eq_true, Option.isNone_iff_eq_none] at hstands
        exact hposition.trans (grantLane_keepsPlaces (by exact hstands.2))
      · split
        · exact hposition.trans (grantPoster_keepsPlaces _)
        · exact hposition.trans grantGenerator_keepsPlaces
  · exact .refl s

/-! ### Every move -/

theorem State.SameJobs.keepsPlaces {t : State} (h : s.SameJobs t) : s.KeepsPlaces t := by
  refine State.SamePlaces.keepsPlaces ⟨h.fetch, fun l => ?_, fun j => ?_⟩
  · rw [h.lane l]; exact ⟨rfl, rfl, rfl⟩
  · simp only [State.slot, h.slots]; exact .refl _

/-- What a stop leaves places no job. -/
theorem State.Dropped.placed {t : State} (h : t.Dropped) : t.JobsPlaced := by
  have hlane (l : LaneId) : (t.lane l).queue = [] ∧ (t.lane l).active = none ∧ (t.lane l).records = [] := by
    rw [h.lanes l]; exact ⟨rfl, rfl, rfl⟩
  refine ⟨fun f hf => ?_, fun l j hj => ?_, fun l => ?_, fun l j hj => ?_, fun j hj => ?_, fun j hj => ?_, fun j hj => ?_,
    fun j hj => ?_, fun l r hr => ?_, fun j => ?_⟩
  · rw [h.fetch] at hf; exact nomatch hf
  · rw [(hlane l).1] at hj; exact nomatch hj
  · rw [(hlane l).1]; exact List.nodup_nil
  · rw [(hlane l).2.1] at hj; exact nomatch hj
  · rw [h.slot j] at hj; exact nomatch hj
  · rw [h.slot j] at hj; exact nomatch hj
  · rw [h.slot j] at hj; exact absurd rfl hj
  · rw [h.slot j] at hj; obtain ⟨r, hr, -⟩ := hj; exact nomatch hr
  · rw [(hlane l).2.2] at hr; exact nomatch hr
  · rw [h.slot j]
    simp only [(hlane _).2.2]
    rfl

theorem clearCredits_keepsPlaces : s.KeepsPlaces (clearCredits s) :=
  .foldl _ (fun _ r => modJobRing_keepsPlaces r _) _ s

theorem takeStartUp_keepsPlaces : s.KeepsPlaces (takeStartUp s) := by
  have hrings : s.KeepsPlaces ((s.setJobRing 0 (startedJobRing s)).setPoster 0 (startedPoster s)) :=
    keepsPlaces_of_same rfl rfl rfl
  have hcredits := hrings.trans clearCredits_keepsPlaces
  unfold takeStartUp
  generalize clearCredits _ = u at hcredits ⊢
  exact hcredits.trans (keepsPlaces_of_same rfl rfl rfl)

/-- Every move from sound lanes keeps the jobs placed. -/
theorem Move.placed {t : State} (h : Move s t) (hsound : s.LanesSound) (hs : s.JobsPlaced) : t.JobsPlaced := by
  cases h with
  | same h => exact (h.keepsPlaces hs).placed
  | dropped h => exact h.placed
  | startUp valid => exact (takeStartUp_keepsPlaces hs).placed
  | sendPending => exact (sendPendingMessages_keepsPlaces hs).placed
  | settle => exact (portDecision_keepsPlaces (fetchDecision_placed hs)).placed
  | arrival l a => exact (takeArrival_keepsPlaces l a hs).placed
  | aligned l => exact (takeAligned_keepsPlaces l hs).placed
  | expiry l => exact (takeExpiry_keepsPlaces l hs).placed
  | startLimit j => exact (takeStartLimit_keepsPlaces j hs).placed
  | coalescing n => exact (takeCoalescing_keepsPlaces n hs).placed
  | entry e h => exact takeEntry_placed e h hs
  | fetchFault => exact takeFetchFault_placed hs
  | recordCompletion l => exact (takeRecordCompletion_keepsPlaces l hs).placed
  | recordFault l => exact (takeRecordFault_keepsPlaces l hs).placed
  | reportCompletion n => exact (takeReportCompletion_keepsPlaces n hs).placed
  | reportFault n => exact (takeReportFault_keepsPlaces n hs).placed
  | loanRequest p loan => exact (takeLoanRequest_keepsPlaces p loan hs).placed
  | grant l p loan => exact (takeGrant_keepsPlaces (hsound l) p loan hs).placed
  | defer l loan => exact (takeDefer_keepsPlaces l loan hs).placed
  | withdraw p loan => exact (takeWithdraw_keepsPlaces p loan hs).placed
  | loanReturn p loan => exact (takeReturn_keepsPlaces p loan hs).placed
  | placeOpen l p => exact (takePlaceOpen_keepsPlaces l p hs).placed
  | jobTail r state index => exact (modJobRing_keepsPlaces r _ hs).placed
  | rptHead n index => exact (modPoster_keepsPlaces n _ hs).placed
  | event e => exact (raiseEvent_keepsPlaces e hs).placed

end

/-! ### The statements -/

/-- Settles O58: with the lanes sound on the way, each move of the blocks keeps the jobs placed. -/
theorem everyStepKeepsTheJobsPlaced : Obligations.EveryStepKeepsTheJobsPlaced := by
  unfold Obligations.EveryStepKeepsTheJobsPlaced
  intro s t _ hsound hs hstep
  exact (step_keeps_of_moves (I := fun s => s.LanesSound ∧ s.JobsPlaced)
    (fun u v hmove hu => ⟨fun l => (hmove.keeps.lane l).sound (hu.1 l), hmove.placed hu.1 hu.2⟩) ⟨hsound, hs⟩ hstep).2

/-- Settles O59: the reset state is what a stop leaves, with nothing outstanding. -/
theorem resetHasWhatTheStepsKeep : Obligations.ResetHasWhatTheStepsKeep := by
  unfold Obligations.ResetHasWhatTheStepsKeep
  have hdropped : State.reset.Dropped :=
    ⟨rfl, rfl, rfl, rfl, rfl, rfl, rfl, rfl, rfl, rfl, fun l => by simp [State.lane, State.reset, droppedLane]⟩
  obtain ⟨hbounded, hmessages, hrings, hwrites⟩ := hdropped.bounds
  obtain ⟨hlanes, htags⟩ := hdropped.lanesAndTags
  refine ⟨hbounded, hmessages, hrings, hwrites, hlanes, htags, ⟨fun _ => hdropped, fun _ => ⟨rfl, fun l => ?_⟩,
    (nomatch ·)⟩, hdropped.placed⟩
  simp [State.lane, State.reset]

end Sys2Proof.Machine
end

section
/-! SUPPORT. Timers, the tick, the port's acceptance, power-on and the band: the events that need no invariant
(O7, O18, O19, O20, O45, O53). -/

namespace Sys2Proof.Machine

-- One proof at a time: every thread reserves memory of its own, and the check bounds the whole.
set_option Elab.async false

/-! ### Instants -/

theorem atOrAfter_eq (a b : Stamp) : atOrAfter a b = !earlier a b := rfl

theorem earlier_iff (a b : Stamp) : earlier a b = true ↔ 1 ≤ (b - a).toNat ∧ (b - a).toNat ≤ 2 ^ 47 := by
  rw [earlier, Bool.and_eq_true, decide_eq_true_iff, decide_eq_true_iff]
  rfl

/-- A timer that has not been withdrawn is due from its instant on, in RUNNING (R15). -/
theorem timerDue_eq_true {s : State} {due : Stamp} (hrun : s.ctl = .running) (h : earlier s.timebase due = false) :
    timerDue s (some due) = true := by
  simp [timerDue, running_eq_true_iff.2 hrun, atOrAfter, h]

theorem timerDue_eq_false {s : State} {timer : Option Stamp}
    (h : s.ctl ≠ .running ∨ ∀ due ∈ timer, earlier s.timebase due = true) : timerDue s timer = false := by
  cases timer with
  | none => rfl
  | some due => rcases h with h | h <;> simp_all [timerDue, atOrAfter, running_eq_true_iff]

/-! ### Start limits -/

/-- Settles O18: a due timer ends the job by its slot state; a timer that is not due leaves the state. -/
theorem startLimitEndsTheJob : Obligations.StartLimitEndsTheJob := by
  unfold Obligations.StartLimitEndsTheJob
  intro j s
  refine ⟨fun due l hrun htimer hdue hlane => ?_, fun h => ?_⟩
  · have hexec : exec (.startLimitExpiry j) s = .next (settle (takeStartLimit j s)) := by
      show execStartLimitExpiry j s = _
      rw [execStartLimitExpiry, htimer, if_pos (timerDue_eq_true hrun hdue)]
    rw [hexec]
    constructor <;> intro hstate <;> simp only [takeStartLimit, hlane, hstate]
  · show execStartLimitExpiry j s = _
    rw [execStartLimitExpiry, timerDue_eq_false h]
    rfl

/-! ### Messages and coalescing -/

theorem passVector_eq (v : Vec) (s : State) :
    passVector v s = { s with messages := if v ∈ s.messages then s.messages else s.messages ++ [v] } := by
  unfold passVector
  split <;> rfl

theorem requestMessage_eq (n : RingId) (s : State) :
    requestMessage n s =
      if s.interruptEnable then
        { s with
          messages :=
            if (s.poster n).vector ∈ s.messages then s.messages else s.messages ++ [(s.poster n).vector] }
      else s.modPoster n fun p => { p with pendingMessage := true } := by
  unfold requestMessage
  rw [passVector_eq]

/-- Settles O19: a due timer requests its message; one that is not due is no event. -/
theorem coalescingExpiryRequestsAMessage : Obligations.CoalescingExpiryRequestsAMessage := by
  unfold Obligations.CoalescingExpiryRequestsAMessage
  intro n s
  refine ⟨fun due hrun htimer hdue hcount => ?_, fun h => ?_⟩
  · show execCoalescingTimerExpiry n s = _
    rw [execCoalescingTimerExpiry, htimer, if_pos (timerDue_eq_true hrun hdue), takeCoalescing, if_pos hcount,
      requestMessage_eq]
    simp
  · show execCoalescingTimerExpiry n s = _
    rw [execCoalescingTimerExpiry, timerDue_eq_false h]
    rfl

/-! ### The glitch filters -/

/-- A sample at the filtered level removes a candidate (R2). -/
theorem sampleLane_same {now : Stamp} {raw : Bool} {x : Lane} (h : (raw != x.invert) = x.filtered) :
    sampleLane now raw x = { x with candidate := none } := by
  rw [sampleLane, if_pos h]

/-- The first sample at the new level qualifies at once with a width of 0, and opens a candidate otherwise (R2). -/
theorem sampleLane_first {now : Stamp} {raw : Bool} {x : Lane} (h : (raw != x.invert) ≠ x.filtered)
    (hc : x.candidate = none) :
    sampleLane now raw x =
      if x.filterWidth = 0 then qualify (raw != x.invert) now x else { x with candidate := some now } := by
  rw [sampleLane, if_neg h, hc]

/-- A later sample at the new level qualifies the candidate once the width has passed (R2). -/
theorem sampleLane_later {now t0 : Stamp} {raw : Bool} {x : Lane} (h : (raw != x.invert) ≠ x.filtered)
    (hc : x.candidate = some t0) :
    sampleLane now raw x =
      if x.filterWidth.toNat ≤ (now - t0).toNat then qualify (raw != x.invert) t0 x else x := by
  rw [sampleLane, if_neg h, hc]
  rfl

/-- A sample writes the level, the candidate and the arrivals formed (R2). -/
theorem sampleLane_frame (now : Stamp) (raw : Bool) (x : Lane) :
    sampleLane now raw x =
      { x with
        filtered := (sampleLane now raw x).filtered
        candidate := (sampleLane now raw x).candidate
        formed := (sampleLane now raw x).formed } := by
  by_cases h : (raw != x.invert) = x.filtered
  · simp [sampleLane_same h]
  · cases hc : x.candidate with
    | none => rw [sampleLane_first h hc]; split <;> rfl
    | some t0 => rw [sampleLane_later h hc]; split <;> rfl

/-- Settles O7: the tick samples every lane, and each row of the filter table is one case of the sampling. -/
theorem baseTickRunsTheGlitchFilters : Obligations.BaseTickRunsTheGlitchFilters := by
  unfold Obligations.BaseTickRunsTheGlitchFilters
  intro levels s
  refine ⟨_, rfl, rfl, fun l => ?_⟩
  have hlane : ({ s with
      timebase := s.timebase + 1
      line := levels
      lanes := Vector.ofFn fun l : Fin 16 => sampleLane (s.timebase + 1) (levels.getLsbD l.val) (s.lane l) } : State).lane l
      = sampleLane (s.timebase + 1) (levels.getLsbD l.val) (s.lane l) := by
    simp [State.lane]
  simp only [hlane, Bool.bne_eq_xor.symm]
  refine ⟨sampleLane_frame _ _ _, fun h => ?_, fun h hc hw => ?_, fun h hc hw => ?_, fun t0 h hc hw => ?_,
    fun t0 h hc hw => ?_⟩
  · simp only [sampleLane_same h, and_self]
  · simp only [sampleLane_first h hc, if_neg hw, and_self]
  · simp only [sampleLane_first h hc, if_pos hw, qualify, and_self]
  · simp only [sampleLane_later h hc, if_pos hw, qualify, and_self]
  · simp only [sampleLane_later h hc, if_neg (Nat.not_le.2 hw), hc, and_self]

/-! ### The band and the end of a production -/

theorem bandChecked_iff (job : Job) : bandChecked job = true ↔ job.fields.bandEnable = true ∧ job.kind ≠ .quiet := by
  simp [bandChecked]

theorem bandTrigger_iff (job : Job) (f : MeasFlags) :
    bandTrigger job f = true ↔ if job.kind = .quiet then f.edgeSeen = true else f.bandLow = true ∨ f.bandHigh = true := by
  unfold bandTrigger
  cases job.kind <;> simp

theorem measurementFlags_bandHigh (job : Job) (value : BitVec 32) (overflow edgeSeen : Bool) :
    (measurementFlags job value overflow edgeSeen).bandHigh = true ↔
      bandChecked job = true ∧ (overflow = true ∨ (job.fields.bandLow ≤ value ∧ job.fields.bandHigh < value)) := by
  unfold measurementFlags bandFlags
  by_cases hc : bandChecked job = true
  · by_cases ho : overflow = true
    · simp [hc, ho]
    · by_cases hl : value < job.fields.bandLow
      · simp [hc, ho, hl, BitVec.not_le.2 hl]
      · by_cases hh : job.fields.bandHigh < value
        · simp [hc, ho, hl, hh, BitVec.not_lt.1 hl]
        · simp [hc, ho, hl, hh]
  · simp [hc]

theorem measurementFlags_bandLow (job : Job) (value : BitVec 32) (overflow edgeSeen : Bool) :
    (measurementFlags job value overflow edgeSeen).bandLow = true ↔
      bandChecked job = true ∧ overflow = false ∧ value < job.fields.bandLow := by
  unfold measurementFlags bandFlags
  by_cases hc : bandChecked job = true
  · by_cases ho : overflow = true
    · simp [hc, ho]
    · by_cases hl : value < job.fields.bandLow
      · simp [hc, ho, hl]
      · by_cases hh : job.fields.bandHigh < value <;> simp [hc, ho, hl, hh]
  · simp [hc]

theorem repeat_reached_iff (count : BitVec 16) (produced : BitVec 64) :
    produced = count.setWidth 64 ↔ produced.toNat = count.toNat := by
  have : count.toNat < 2 ^ 64 := by have := count.isLt; omega
  rw [← BitVec.toNat_inj, BitVec.toNat_setWidth, Nat.mod_eq_of_lt this]

/-- Settles O20: the flags one by one, then stop-on-band before the repeat count. -/
theorem bandAndRepeatDecideTheEnd : Obligations.BandAndRepeatDecideTheEnd := by
  unfold Obligations.BandAndRepeatDecideTheEnd
  intro job value overflow edgeSeen produced
  refine ⟨rfl, rfl, ?_, ?_, ?_⟩
  · rw [measurementFlags_bandHigh, bandChecked_iff]
  · rw [measurementFlags_bandLow, bandChecked_iff]
  · rw [← bandTrigger_iff, ← repeat_reached_iff]
    generalize measurementFlags job value overflow edgeSeen = flags
    unfold productionEnd
    by_cases hs : job.fields.stopOnBand = true ∧ bandTrigger job flags = true
    · simp [hs]
    · have hs' : (job.fields.stopOnBand && bandTrigger job flags) = false := by simpa using hs
      by_cases hr : job.fields.repeatCount ≠ 0 ∧ produced = job.fields.repeatCount.setWidth 64
      · simp [hs, hs', hr]
      · simp [hs, hs']

/-! ### Acceptance and power-on -/

theorem finishMessage_eq (w : PortWrite) (s : State) :
    finishMessage w s =
      { s with accesses := match w with | .message _ => s.accesses.erase .message | _ => s.accesses } := by
  cases w <;> rfl

theorem endStopIfDone_eq (s : State) :
    endStopIfDone s = if s.ctl = .stopping ∧ s.accesses = [] then s.stopEnded else s := by
  unfold endStopIfDone
  split
  · next h => exact endStop_eq_stopEnded h.2
  · rfl

/-- Settles O45: by what the port was busy with, in RUNNING and outside it. -/
theorem acceptanceFreesThePort : Obligations.AcceptanceFreesThePort := by
  unfold Obligations.AcceptanceFreesThePort
  intro s
  refine ⟨fun hfree => ?_, fun w hbusy => ?_⟩
  · show execWriteAcceptance s = _
    simp only [execWriteAcceptance, hfree]
  · show execWriteAcceptance s = _
    simp only [execWriteAcceptance, hbusy, finishMessage_eq, endStopIfDone_eq, running_eq_true_iff]
    by_cases hrun : s.ctl = .running
    · simp only [if_pos hrun] <;> cases w <;> rfl
    · simp only [if_neg hrun] <;> cases w <;> rfl

/-- Settles O53: the reset blocks are read off, and what they drop is what a stop leaves. -/
theorem powerOnSetsEveryBlock : Obligations.PowerOnSetsEveryBlock := by
  unfold Obligations.PowerOnSetsEveryBlock
  refine ⟨fun levels s => ?_, fun s => ?_⟩
  · have hsound := powerOn_stopsSound (s := s) levels
    exact ⟨_, rfl, rfl, rfl, rfl, rfl, rfl, rfl, rfl, rfl, rfl, rfl, rfl, hsound.dropped (.inl rfl), hsound, rfl, rfl,
      rfl, fun l => by simp [State.lane]⟩
  · show Host.Outcome.next _ = _
    congr 2

end Sys2Proof.Machine
end

section
/-! SUPPORT. Edge arrivals: the lane whose context takes one (R6, R7), and what WIDTH, CYCLES, TALLY and QUIET contexts
make of it (O9 to O13). -/

namespace Sys2Proof.Machine

-- One proof at a time: every thread reserves memory of its own, and the check bounds the whole.
set_option Elab.async false

/-! ### The job of a slot, and the SPAN a lane is lent to -/

theorem jobOf_of_job {s : State} {j : SlotId} {job : Job} (h : (s.slot j).job = some job) : jobOf s j = job := by
  simp [jobOf, h]

theorem isSpan_iff (job : Job) : isSpan job = true ↔ job.kind = .span := by simp [isSpan]

theorem isSpan_jobOf_iff (s : State) (j : SlotId) :
    isSpan (jobOf s j) = true ↔ ∃ job, (s.slot j).job = some job ∧ job.kind = .span := by
  unfold jobOf
  cases (s.slot j).job <;> simp [isSpan]

theorem activeSpanOn_iff (s : State) (l p : LaneId) :
    activeSpanOn s l p = true ↔
      ∃ j job, (s.lane l).active = some j ∧ (s.slot j).job = some job ∧ job.kind = .span ∧
        partnerOf job.fields = p := by
  unfold activeSpanOn
  cases (s.lane l).active with
  | none => simp
  | some j =>
    unfold jobOf
    cases hjob : (s.slot j).job <;> simp [isSpan, hjob]

theorem settleInterval_of_ne_span (s : State) (l : LaneId) {job : Job} (h : job.kind ≠ .span) :
    settleInterval s l job = (s.lane l).filterWidth.toNat := by
  have : isSpan job = false := by simpa [isSpan] using h
  simp [settleInterval, this]

theorem settleInterval_of_span (s : State) (l : LaneId) {job : Job} (h : job.kind = .span) :
    settleInterval s l job =
      max (s.lane l).filterWidth.toNat (s.lane (partnerOf job.fields)).filterWidth.toNat := by
  simp [settleInterval, isSpan, h]

/-! ### The lane that takes an arrival -/

section
variable {s : State} {l : LaneId}

theorem contextLane_of_hold (h : (s.lane l).hold = true) : contextLane s l = none := by simp [contextLane, h]

/-- A lane that is not lent takes its own arrivals while it has an active job (R6). -/
theorem contextLane_own (hrun : s.ctl = .running) (hhold : (s.lane l).hold = false) (hlent : (s.lane l).lentTo = none) :
    contextLane s l = if (s.lane l).active.isSome then some l else none := by
  simp [contextLane, hhold, hlent, running_eq_true_iff.2 hrun]

/-- A lent lane passes its arrivals to the primary of the SPAN it is lent to, while that SPAN is active there (R6). -/
theorem contextLane_lent {loan : Loan} (hrun : s.ctl = .running) (hhold : (s.lane l).hold = false)
    (hlent : (s.lane l).lentTo = some loan) :
    contextLane s l =
      if (s.lane loan.primary).active = some loan.slot ∧ activeSpanOn s loan.primary l then some loan.primary
      else none := by
  simp [contextLane, hhold, hlent, running_eq_true_iff.2 hrun]

/-- Taking an arrival from those formed changes nothing that decides which context takes it. -/
@[simp] theorem contextLane_consumed (m : LaneId) (rest : List Arrival) :
    contextLane (s.consumed m rest) l = contextLane s l := by
  have hlane : ∀ k, ((s.consumed m rest).lane k).hold = (s.lane k).hold ∧
      ((s.consumed m rest).lane k).lentTo = (s.lane k).lentTo ∧
      ((s.consumed m rest).lane k).active = (s.lane k).active := by
    intro k
    rw [State.consumed, State.lane_modLane]
    split
    · next h => subst h; exact ⟨rfl, rfl, rfl⟩
    · exact ⟨rfl, rfl, rfl⟩
  unfold contextLane activeSpanOn
  simp only [hlane]
  rfl

end

/-! ### An arrival that is taken from those formed -/

theorem exec_edgeArrival {l : LaneId} {a : Arrival} {rest : List Arrival} {s : State}
    (h : (s.lane l).formed = a :: rest) :
    exec (.edgeArrival l a.polarity a.stamp) s = .next (settle (takeArrival l a (s.consumed l rest))) := by
  show execEdgeArrival l a.polarity a.stamp s = _
  rw [execEdgeArrival, h]
  simp only [if_true]
  rfl

theorem takeArrival_of_no_context {l : LaneId} {a : Arrival} {s : State} (h : contextLane s l = none) :
    takeArrival l a s = s := by
  simp only [takeArrival, h]

/-- R7 and R43: a HELD context and one that accepts from a later instant ignore an arrival. -/
theorem takeArrival_of_ignored {l p : LaneId} {a : Arrival} {s : State} (h : contextLane s l = some p)
    (hig : s.OwnJobIgnores p a) : takeArrival l a s = s := by
  simp only [takeArrival, h]
  split
  · next c j hc hj =>
    rcases hig with hnone | ⟨c', hc', hig⟩
    · exact nomatch hnone.symm.trans hj
    · cases hc.symm.trans hc'
      rw [if_pos hig]
  · rfl

theorem ownJobIgnores_consumed {s : State} {l p : LaneId} {a : Arrival} (rest : List Arrival)
    (h : s.OwnJobIgnores p a) : (s.consumed l rest).OwnJobIgnores p a := by
  unfold State.OwnJobIgnores State.consumed
  rw [State.lane_modLane]
  split
  · next heq => subst heq; exact h
  · exact h

/-- Settles O9: each condition leaves no context to take the arrival, or one that ignores it. -/
theorem arrivalsThatNoContextTakes : Obligations.ArrivalsThatNoContextTakes := by
  unfold Obligations.ArrivalsThatNoContextTakes
  refine ⟨fun l a rest s hformed hcase => ?_, fun l polarity stamp s hhead => ?_⟩
  · rw [exec_edgeArrival hformed]
    suffices h : contextLane s l = none ∨ ∃ p, contextLane s l = some p ∧ s.OwnJobIgnores p a by
      rcases h with h | ⟨p, h, hig⟩
      · rw [takeArrival_of_no_context (by rwa [contextLane_consumed])]
      · rw [takeArrival_of_ignored (by rwa [contextLane_consumed]) (ownJobIgnores_consumed rest hig)]
    by_cases hrun : s.ctl = .running
    swap
    · exact .inl (contextLane_of_not_running hrun l)
    cases hhold : (s.lane l).hold with
    | true => exact .inl (contextLane_of_hold hhold)
    | false =>
      rcases hcase with h | h | ⟨hlent, hig⟩ | ⟨loan, hlent, hig⟩
      · exact absurd hrun h
      · exact nomatch hhold.symm.trans h
      · rw [contextLane_own hrun hhold hlent]
        cases hactive : (s.lane l).active with
        | none => exact .inl rfl
        | some j => exact .inr ⟨l, rfl, hig⟩
      · rw [contextLane_lent hrun hhold hlent]
        split
        · next hspan =>
          refine .inr ⟨_, rfl, hig.resolve_left fun hno => hno ?_⟩
          obtain ⟨j, job, hj, hjob, hkind, hpartner⟩ := (activeSpanOn_iff _ _ _).1 hspan.2
          cases hj.symm.trans hspan.1
          exact ⟨job, hspan.1, hjob, hkind, hpartner⟩
        · exact .inl rfl
  · show execEdgeArrival l polarity stamp s = _
    rw [execEdgeArrival]
    split
    · rfl
    · next a rest hformed =>
      have hne : a ≠ ⟨polarity, stamp⟩ := by
        rintro rfl
        exact hhead (by rw [hformed]; rfl)
      rw [if_neg hne]

/-! ### An arrival at a context that is not a SPAN's -/

/-- An arrival before the pending expiry takes no expiry (R10). -/
theorem takeExpiriesBefore_eq_self {l : LaneId} {t : Stamp} {c : Context} {s : State} (hctx : (s.lane l).ctx = some c)
    (h : ∀ p ∈ c.pending, earlier t p.nominal = true) : takeExpiriesBefore l t s = s := by
  unfold takeExpiriesBefore
  cases expiriesUpTo s l t with
  | zero => rfl
  | succ k =>
    have hpending : pendingExpiry s l = c.pending := by simp [pendingExpiry, hctx]
    rw [takeExpiriesUpTo, hpending]
    cases hp : c.pending with
    | none => rfl
    | some p => simp [atOrAfter, h p hp]

section
variable {s : State} {l : LaneId} {j : SlotId} {job : Job} {c : Context} {a : Arrival} {rest : List Arrival}

@[simp] theorem State.consumed_ctx (rest : List Arrival) : ((s.consumed l rest).lane l).ctx = (s.lane l).ctx := by
  simp [State.consumed]

@[simp] theorem State.consumed_active (rest : List Arrival) :
    ((s.consumed l rest).lane l).active = (s.lane l).active := by
  simp [State.consumed]

@[simp] theorem State.consumed_filterWidth (rest : List Arrival) :
    ((s.consumed l rest).lane l).filterWidth = (s.lane l).filterWidth := by
  simp [State.consumed]

@[simp] theorem State.consumed_slot (rest : List Arrival) : (s.consumed l rest).slot j = s.slot j := rfl

/-- The state in which a lane's own job has taken an arrival that comes before its pending expiry (R6, R10). -/
theorem exec_takesArrival (h : s.TakesArrival l j job c a rest) (hspan : job.kind ≠ .span) :
    exec (.edgeArrival l a.polarity a.stamp) s = .next (settle (arrivalAtContext l l a (s.consumed l rest))) := by
  obtain ⟨hrun, hhold, hlent, hactive, hctx, hjob, hformed, hphase, haccept, hpending⟩ := h
  rw [exec_edgeArrival hformed]
  have hlane : contextLane (s.consumed l rest) l = some l := by
    rw [contextLane_consumed, contextLane_own hrun hhold hlent, hactive]
    rfl
  have hnot : isSpan (jobOf (s.consumed l rest) j) = false := by
    rw [jobOf_of_job (s := s.consumed l rest) hjob]
    simpa [isSpan] using hspan
  have hctx' : ((s.consumed l rest).lane l).ctx = some c := by rwa [State.consumed_ctx]
  simp only [takeArrival, hlane, State.consumed_ctx, State.consumed_active, hctx, hactive, hphase, haccept,
    hnot, takeExpiriesBefore_eq_self hctx' hpending, arrivalNow, false_or, if_false, Bool.false_eq_true]

/-- The kind of the job decides what an arrival that is not ignored does at a context (R6). -/
theorem arrivalAtContext_eq {src : LaneId} (hctx : (s.lane l).ctx = some c) (hactive : (s.lane l).active = some j)
    (hjob : (s.slot j).job = some job) (hphase : c.phase ≠ .held) (haccept : earlier a.stamp c.acceptFrom = false) :
    arrivalAtContext l src a s =
      match job.kind with
      | .width => widthArrival l j c a s
      | .cycles => cyclesArrival l j c a s
      | .span => spanArrival l j src c a s
      | .tally => windowArrival l j c a s
      | .quiet => windowArrival l j c a s := by
  simp only [arrivalAtContext, hctx, hactive, hphase, haccept, jobOf_of_job hjob, false_or, if_false,
    Bool.false_eq_true] <;> rfl

/-- The effect of a taken arrival, by the kind of the job. -/
theorem State.TakesArrival.exec_eq (h : s.TakesArrival l j job c a rest) (hspan : job.kind ≠ .span) :
    exec (.edgeArrival l a.polarity a.stamp) s = .next (settle
      (match job.kind with
      | .width => widthArrival l j c a (s.consumed l rest)
      | .cycles => cyclesArrival l j c a (s.consumed l rest)
      | .span => spanArrival l j l c a (s.consumed l rest)
      | .tally => windowArrival l j c a (s.consumed l rest)
      | .quiet => windowArrival l j c a (s.consumed l rest))) := by
  rw [exec_takesArrival h hspan]
  obtain ⟨-, -, -, hactive, hctx, hjob, -, hphase, haccept, -⟩ := h
  rw [arrivalAtContext_eq (s := s.consumed l rest) (by rwa [State.consumed_ctx]) (by rwa [State.consumed_active]) hjob hphase haccept]

/-- The settle interval of a job that is no SPAN, while the arrival is taken (R9). -/
theorem settleInterval_consumed (h : job.kind ≠ .span) :
    settleInterval (s.consumed l rest) l job = (s.lane l).filterWidth.toNat := by
  rw [settleInterval_of_ne_span _ _ h, State.consumed_filterWidth]

end

/-! ### WIDTH and CYCLES -/

theorem matchesSpec_iff (spec : Byte) (polarity : Polarity) :
    matchesSpec spec polarity = true ↔
      spec = 3 ∨ (spec = 1 ∧ polarity = .rise) ∨ (spec = 2 ∧ polarity = .fall) := by
  cases polarity <;> simp [matchesSpec, or_comm]

/-- Settles O10: the context takes the consumed arrival, in ARMED, by its kind. -/
theorem startEdgeBeginsTheMeasurement : Obligations.StartEdgeBeginsTheMeasurement := by
  unfold Obligations.StartEdgeBeginsTheMeasurement
  refine ⟨matchesSpec_iff, ⟨rfl, rfl, rfl, rfl⟩, earlier_iff, fun l j job c a rest s h hkind hphase => ?_⟩
  have hspan : job.kind ≠ .span := by rcases hkind with hk | hk <;> simp [hk]
  have hjob : jobOf (s.consumed l rest) j = job := jobOf_of_job h.2.2.2.2.2.1
  rw [h.exec_eq hspan]
  rcases hkind with hk | hk
  · simp only [hk, widthArrival, hjob, hphase, settleInterval_consumed hspan]
    rfl
  · simp only [hk, cyclesArrival, hjob, hphase, settleInterval_consumed hspan]
    rfl

/-- Settles O11: the context takes the consumed arrival in MEASURING. -/
theorem widthStopEdgeProduces : Obligations.WidthStopEdgeProduces := by
  unfold Obligations.WidthStopEdgeProduces
  intro l j job c a rest s h hk hphase
  have hspan : job.kind ≠ .span := by simp [hk]
  have hjob : jobOf (s.consumed l rest) j = job := jobOf_of_job h.2.2.2.2.2.1
  rw [h.exec_eq hspan]
  simp only [hk, widthArrival, hjob, hphase, settleInterval_consumed hspan, Bool.and_eq_true, stopMeasurement,
    startMeasuring, rearm]
  rfl

/-- Settles O12: the context takes the consumed arrival, which counts, in MEASURING. -/
theorem cyclesCountsStartEdges : Obligations.CyclesCountsStartEdges := by
  unfold Obligations.CyclesCountsStartEdges
  intro l j job c a rest s h hk hphase
  have hspan : job.kind ≠ .span := by simp [hk]
  have hjob : jobOf (s.consumed l rest) j = job := jobOf_of_job h.2.2.2.2.2.1
  rw [h.exec_eq hspan]
  simp only [hk, cyclesArrival, hjob, hphase, settleInterval_consumed hspan, startMeasuring]
  rfl

/-- R39 and R41: what a stop edge does in a window. -/
theorem countInWindow_eq {job : Job} (h : job.kind = .tally ∨ job.kind = .quiet) (a : Arrival) (c : Context) :
    countInWindow job a c =
      if matchesSpec job.fields.stopSpec a.polarity = false then c
      else if job.kind = .tally then
        if c.edgeCounter = 0xFFFFFFFF then { c with saturated := true }
        else { c with edgeCounter := c.edgeCounter + 1 }
      else if c.firstEdge = none then
        { c with
          firstEdge :=
            some (BitVec.ofNat 32 ((a.stamp - c.startTs).toNat / prescaleTicks job.fields.prescale)) }
      else c := by
  unfold countInWindow
  cases matchesSpec job.fields.stopSpec a.polarity with
  | false => rfl
  | true =>
    rcases h with hk | hk
    · simp only [hk]
      rfl
    · cases hfirst : c.firstEdge with
      | none => simp only [hk]; rfl
      | some v => simp only [hk]; rfl

/-- Settles O13: the window takes the consumed arrival, by its phase. -/
theorem windowsCountArrivals : Obligations.WindowsCountArrivals := by
  unfold Obligations.WindowsCountArrivals
  intro l j job c a rest s h hkind
  have hspan : job.kind ≠ .span := by rcases hkind with hk | hk <;> simp [hk]
  have hjob : jobOf (s.consumed l rest) j = job := jobOf_of_job h.2.2.2.2.2.1
  have hwindow : exec (.edgeArrival l a.polarity a.stamp) s =
      .next (settle (windowArrival l j c a (s.consumed l rest))) := by
    rw [h.exec_eq hspan]
    rcases hkind with hk | hk <;> rw [hk]
  rw [hwindow]
  refine ⟨fun hphase => ?_, fun hphase => ?_⟩
  · simp only [windowArrival, hjob, hphase, countInWindow_eq hkind]
    rfl
  · simp only [windowArrival, hjob, hphase, settleInterval_consumed hspan, countInWindow_eq hkind]
    rfl

end Sys2Proof.Machine
end

section
/-! SUPPORT. Productions, the acting of lanes, ends, and the reports of slots: each operation's outcome spelt out (O21 to
O27). -/

namespace Sys2Proof.Machine

-- One proof at a time: every thread reserves memory of its own, and the check bounds the whole.
set_option Elab.async false

/-! ### Writes that change nothing -/

theorem modSlot_eq_self {s : State} {j : SlotId} {f : Slot → Slot} (h : f (s.slot j) = s.slot j) : s.modSlot j f = s := by
  rw [State.modSlot, h, State.setSlot_slot_self]

theorem modPoster_eq_self {s : State} {n : RingId} {f : Poster → Poster} (h : f (s.poster n) = s.poster n) :
    s.modPoster n f = s := by
  rw [State.modPoster, h, State.setPoster_poster_self]

theorem setSlot_modLane_comm (s : State) (j : SlotId) (x : Slot) (l : LaneId) (f : Lane → Lane) :
    (s.setSlot j x).modLane l f = (s.modLane l f).setSlot j x := rfl

theorem modPoster_modSlot_comm (s : State) (n : RingId) (f : Poster → Poster) (j : SlotId) (g : Slot → Slot) :
    (s.modPoster n f).modSlot j g = (s.modSlot j g).modPoster n f := rfl

/-! ### Production -/

/-- A saturating counter takes one more, or stays (00_scope.md, Saturation). -/
theorem satInc_eq {w : Nat} (x : BitVec w) : satInc x = if x.toNat + 1 < 2 ^ w then x + 1 else x := by
  unfold satInc satAdd
  split
  · rfl
  · next h =>
    refine BitVec.eq_of_toNat_eq ?_
    rw [BitVec.toNat_allOnes]
    have := x.isLt
    omega

theorem stagingBuffer_of_room {x : Slot} {y : Lane} {b : Buffer} (hcurrent : x.current = some b)
    (hplace : x.reserved < b.capacity) (hfifo : y.fifo.length < 4) : stagingBuffer x y = some b := by
  simp only [stagingBuffer, hcurrent, if_pos (show x.reserved < b.capacity ∧ y.fifo.length < Config.stagingDepth from ⟨hplace, hfifo⟩)]

theorem stagingBuffer_of_full {x : Slot} {y : Lane}
    (h : x.current = none ∨ (∃ b, x.current = some b ∧ ¬ x.reserved < b.capacity) ∨ 4 ≤ y.fifo.length) :
    stagingBuffer x y = none := by
  cases hb : stagingBuffer x y with
  | none => rfl
  | some b =>
    obtain ⟨hcurrent, hplace, hfifo⟩ := stagingBuffer_eq_some hb
    rcases h with h | ⟨b', h, hfull⟩ | h
    · exact nomatch h.symm.trans hcurrent
    · cases h.symm.trans hcurrent
      exact absurd hplace hfull
    · exact absurd h (Nat.not_le.2 hfifo)

/-- The slot once the production is counted, before it is staged or lost (R21). -/
def Slot.withProduction (x : Slot) (flags : MeasFlags) : Slot :=
  { x with produced := x.produced + 1, flagsSeen := x.flagsSeen.union flags }

/-- The accounts of a production that is staged into the buffer `b` (R71, R72, R74). -/
theorem accountProduction_staged {l : LaneId} {j : SlotId} {s : State} {b : Buffer} (m : Measurement)
    (flags : MeasFlags) (h : stagingBuffer (s.slot j) (s.lane l) = some b) :
    accountProduction l j m flags s =
      (s.modLane l fun y =>
        { y with fifo := y.fifo ++ [formRecord j (s.slot j) b (s.slot j).produced m flags] }).setSlot j
          (reservePlace b ((s.slot j).withProduction flags)) := by
  show stageOrLose l j _ m flags (s.setSlot j ((s.slot j).withProduction flags)) = _
  have hbuffer : stagingBuffer ((s.slot j).withProduction flags) (s.lane l) = some b := h
  simp only [stageOrLose, State.slot_setSlot_self, State.setSlot_lane, hbuffer]
  rw [setSlot_modLane_comm, State.modSlot, State.slot_setSlot_self, State.setSlot_setSlot]
  rfl

/-- The accounts of a production that is lost (R73). -/
theorem accountProduction_lost {l : LaneId} {j : SlotId} {s : State} (m : Measurement) (flags : MeasFlags)
    (h : stagingBuffer (s.slot j) (s.lane l) = none) :
    accountProduction l j m flags s = s.setSlot j (countLost ((s.slot j).withProduction flags)) := by
  show stageOrLose l j _ m flags (s.setSlot j ((s.slot j).withProduction flags)) = _
  have hbuffer : stagingBuffer ((s.slot j).withProduction flags) (s.lane l) = none := h
  simp only [stageOrLose, State.slot_setSlot_self, State.setSlot_lane, hbuffer, State.modSlot, State.setSlot_setSlot]

theorem accountProduction_produced (l : LaneId) (j : SlotId) (m : Measurement) (flags : MeasFlags) (s : State) :
    ((accountProduction l j m flags s).slot j).produced = (s.slot j).produced + 1 := by
  cases hb : stagingBuffer (s.slot j) (s.lane l) with
  | none => rw [accountProduction_lost _ _ hb, State.slot_setSlot_self]; rfl
  | some b =>
    rw [accountProduction_staged _ _ hb, State.slot_setSlot_self]
    unfold reservePlace
    simp only
    split <;> rfl

/-- After its accounts, a production ends the job or lets its context go on (R22, R24). -/
theorem produce_eq {l : LaneId} {j : SlotId} {m : Measurement} {next : Context} {job : Job} {s : State}
    (h : (s.slot j).job = some job) :
    produce l j m next s =
      match productionEnd job (measurementFlags job m.value m.overflow m.edgeSeen) ((s.slot j).produced + 1) with
      | some st =>
        endActive l j st (accountProduction l j m (measurementFlags job m.value m.overflow m.edgeSeen) s)
      | none =>
        (accountProduction l j m (measurementFlags job m.value m.overflow m.edgeSeen) s).modLane l
          fun y => { y with ctx := some next } := by
  simp only [produce, jobOf_of_job h, accountProduction_produced] <;> rfl

/-- Settles O21: a production is staged, when there is room, or counted lost. -/
theorem productionAccountsAndEnds : Obligations.ProductionAccountsAndEnds := by
  unfold Obligations.ProductionAccountsAndEnds
  intro l j m next job s hjob
  refine ⟨fun b hcurrent hplace hfifo => ?_, fun hfull => ?_⟩
  · rw [produce_eq hjob, accountProduction_staged _ _ (stagingBuffer_of_room hcurrent hplace hfifo)]
    unfold reservePlace
    rfl
  · rw [produce_eq hjob, accountProduction_lost _ _ (stagingBuffer_of_full hfull), countLost, satInc_eq, satInc_eq]
    rfl

/-! ### A lane acts on its new state -/

theorem startsAtActivation_iff (job : Job) :
    startsAtActivation job = true ↔ (job.kind = .tally ∨ job.kind = .quiet) ∧ job.fields.startSpec = 0 := by
  unfold startsAtActivation
  cases job.kind <;> simp [specIsNone]

/-- The head of a queue becomes the lane's active job (R20, R52). -/
theorem activateHead_eq {l : LaneId} {h : SlotId} {rest : List SlotId} {job : Job} {s : State}
    (hqueue : (s.lane l).queue = h :: rest) (hjob : (s.slot h).job = some job) :
    activateHead l s = s.activated l h rest job
      (activationContext job (settleInterval s l job) s.timebase ((s.lane l).partnerMark && isSpan job)) := by
  simp only [activateHead, hqueue, jobOf_of_job hjob]
  rfl

/-- The context of a job that is not a SPAN at its activation: a window at once for TALLY and QUIET without a start
spec, and ARMED otherwise (R20, R38, R41). -/
theorem activationContext_unmarked (job : Job) (k : Nat) (now : Stamp) :
    activationContext job k now false =
      if (job.kind = .tally ∨ job.kind = .quiet) ∧ job.fields.startSpec = 0 then
        openWindow job.fields k now { acceptFrom := now }
      else { acceptFrom := now } := by
  unfold activationContext beginContext
  simp only [startsAtActivation_iff, Bool.false_eq_true, if_false]

theorem sendPlaceOpen_eq (l : LaneId) (loan : Loan) (s : State) :
    sendPlaceOpen l loan s = { s with loanMsgs := s.loanMsgs ++ placeOpenNotices l loan } := by
  have hfold (ms : List LaneId) : ∀ s : State,
      ms.foldl (fun s m => if m = l then s else sendLoan { src := l, dst := m, kind := .placeOpen, loan := loan } s) s =
        { s with
          loanMsgs := s.loanMsgs ++ (ms.filter fun m => m != l).map fun m =>
            { src := l, dst := m, kind := .placeOpen, loan := loan } } := by
    induction ms with
    | nil => intro s; simp
    | cons m ms ih =>
      intro s
      rw [List.foldl_cons, ih]
      by_cases hm : m = l <;> simp [hm, sendLoan]
  exact hfold _ s

section
variable {l : LaneId} {s : State}

theorem laneAct_of_head {h : SlotId} {rest : List SlotId} (hrun : s.ctl = .running) (hactive : (s.lane l).active = none)
    (hlent : (s.lane l).lentTo = none) (hhold : (s.lane l).hold = false) (hqueue : (s.lane l).queue = h :: rest) :
    laneAct l s =
      if isSpan (jobOf s h) then if (s.lane l).loanPhase = .idle then sendLoanRequest l h s else s
      else activateHead l s := by
  have hfree : freeForActivation s l = true := by
    rw [freeForActivation_iff]
    exact ⟨hrun, hactive, hlent, hhold, by simp [hqueue]⟩
  rw [laneAct, if_pos hfree, hqueue]

theorem laneAct_of_empty (hrun : s.ctl = .running) (hactive : (s.lane l).active = none)
    (hlent : (s.lane l).lentTo = none) (hhold : (s.lane l).hold = false) (hqueue : (s.lane l).queue = []) :
    laneAct l s =
      match (s.lane l).place with
      | none => s
      | some loan => sendPlaceOpen l loan (grantLoan l loan (s.modLane l fun x => { x with place := none })) := by
  have hfree : ¬ freeForActivation s l = true := by
    rw [freeForActivation_iff]
    exact fun ⟨_, _, _, _, hne⟩ => hne hqueue
  have hgrant : grantConditions s l = true := by
    rw [grantConditions_iff]
    exact ⟨hrun, hactive, hlent, hhold, hqueue⟩
  rw [laneAct, if_neg hfree, if_pos hgrant] <;> rfl

theorem laneAct_eq_self (h : ¬ (s.ctl = .running ∧ (s.lane l).active = none ∧ (s.lane l).lentTo = none ∧
    (s.lane l).hold = false)) : laneAct l s = s := by
  have hfree : ¬ freeForActivation s l = true := by
    rw [freeForActivation_iff]
    exact fun ⟨hrun, hactive, hlent, hhold, _⟩ => h ⟨hrun, hactive, hlent, hhold⟩
  have hgrant : ¬ grantConditions s l = true := by
    rw [grantConditions_iff]
    exact fun ⟨hrun, hactive, hlent, hhold, _⟩ => h ⟨hrun, hactive, hlent, hhold⟩
  rw [laneAct, if_neg hfree, if_neg hgrant]

end

/-- Settles O22: by the lane's freedom, its queue and the place it holds. -/
theorem lanesActOnTheirNewState : Obligations.LanesActOnTheirNewState := by
  unfold Obligations.LanesActOnTheirNewState
  intro l s
  refine ⟨laneAct_eq_self, fun h rest job ⟨hrun, hactive, hlent, hhold⟩ hqueue hjob hkind => ?_,
    fun h rest job ⟨hrun, hactive, hlent, hhold⟩ hqueue hjob hkind => ?_,
    fun ⟨hrun, hactive, hlent, hhold⟩ hqueue hplace => ?_, fun loan ⟨hrun, hactive, hlent, hhold⟩ hqueue hplace => ?_⟩
  · have hspan : isSpan job = false := by simpa [isSpan] using hkind
    rw [laneAct_of_head hrun hactive hlent hhold hqueue, jobOf_of_job hjob, hspan, activateHead_eq hqueue hjob, hspan,
      Bool.and_false, activationContext_unmarked, settleInterval_of_ne_span _ _ hkind]
    rfl
  · have hspan : isSpan job = true := (isSpan_iff job).2 hkind
    rw [laneAct_of_head hrun hactive hlent hhold hqueue, jobOf_of_job hjob, hspan]
    refine ⟨fun hphase => ?_, fun hphase => ?_⟩
    · rw [if_pos rfl, if_neg hphase]
    · rw [if_pos rfl, if_pos hphase, sendLoanRequest, jobOf_of_job hjob]
      rfl
  · rw [laneAct_of_empty hrun hactive hlent hhold hqueue, hplace]
  · rw [laneAct_of_empty hrun hactive hlent hhold hqueue, hplace]
    simp [sendPlaceOpen_eq, grantLoan, sendLoan]

/-! ### Ends -/

/-- A job that does not stand at the head leaves its queue without a word (R51). -/
theorem leftQueue_of_not_head {l : LaneId} {j : SlotId} {s : State} (h : (s.lane l).queue.head? ≠ some j) :
    s.leftQueue l j = s.modLane l fun x => { x with queue := x.queue.erase j } := by
  simp only [State.leftQueue, h, if_false, false_and]
  show s.modLane l (fun y =>
    { y with
      queue := (s.lane l).queue.erase j
      loanPhase := (s.lane l).loanPhase
      partnerMark := (s.lane l).partnerMark }) = _
  exact modLane_congr rfl

/-- A head that leaves its queue withdraws what it had asked (R60, R62). -/
theorem leftQueue_of_head {l : LaneId} {j : SlotId} {rest : List SlotId} {s : State} (h : (s.lane l).queue = j :: rest) :
    s.leftQueue l j =
      { s.modLane l (fun x => { x with loanPhase := .idle, partnerMark := false, queue := rest }) with
        loanMsgs :=
          if (s.lane l).loanPhase = .asked then
            s.loanMsgs ++
              [{ src := l, dst := partnerOf (jobOf s j).fields, kind := .withdraw
                 loan :=
                   { primary := l, slot := j, number := (s.lane l).loanNumber
                     ring := (s.slot j).ring, tag := (s.slot j).tag } }]
          else s.loanMsgs } := by
  simp only [State.leftQueue, h, List.head?_cons, if_true, true_and, List.erase_cons_head]

/-- Settles O23: what leaves the lanes or the queue, then which lanes act, by the kind of the job. -/
theorem anEndFreesTheLanes : Obligations.AnEndFreesTheLanes := by
  unfold Obligations.AnEndFreesTheLanes
  intro l j st job s hjob
  have hend : endActive l j st s = ((lanesAct l job ((s.leftLanes l j).ended j st))).drained j := by
    rw [endActive, jobOf_of_job hjob, detachActive_eq, finishDraining_eq]
  have hpending : endPending l j st s = laneAct l (((s.leftQueue l j).ended j st).drained j) := by
    rw [endPending, detachPending_eq, finishDraining_eq]
  refine ⟨fun hkind => ?_, fun hkind => ?_, fun hhead => ?_, fun rest hqueue => ?_⟩
  · have hspan : isSpan job = false := by simpa [isSpan] using hkind
    rw [hend, lanesAct, hspan, State.leftLanes, jobOf_of_job hjob]
    rfl
  · rw [hend, lanesAct, (isSpan_iff job).2 hkind, State.leftLanes, jobOf_of_job hjob]
    rfl
  · rw [hpending, leftQueue_of_not_head hhead]
    rfl
  · rw [hpending, leftQueue_of_head hqueue, jobOf_of_job hjob]
    split <;> rfl

/-! ### POSTING -/

/-- What a slot's final account counts of its oldest buffer, and how many buffers it leaves unused (R84). -/
theorem finalAccount_eq (x : Slot) :
    finalAccount x =
      let held := x.landing ++ x.current.toList ++ x.queued
      let counted := if held = [] then 0 else x.landed
      .measurement x.flagsSeen x.writeFaultMark counted
        (BitVec.ofNat 8 (held.length - (if counted = 0 then 0 else 1))) x.lost x.written x.buffersRetired := by
  unfold finalAccount partlyFilled heldBuffers
  generalize x.landing ++ x.current.toList ++ x.queued = held
  cases held with
  | nil => simp
  | cons b bs => by_cases h : x.landed = 0 <;> simp_all

/-- Settles O24: the slot's FINAL carries the final account, with a waiting cancel and without one. -/
theorem slotEntersPosting : Obligations.SlotEntersPosting := by
  unfold Obligations.SlotEntersPosting
  intro j s
  have hfilter : (s.tagMap (s.slot j).ring).filter (fun e => e.slot != j) =
      (s.tagMap (s.slot j).ring).filter fun e => decide (e.slot ≠ j) :=
    List.filter_congr fun e _ => by by_cases h : e.slot = j <;> simp [h]
  refine ⟨fun hcancel => ?_, fun c ring tag found hcancel hwait => ?_⟩
  · simp only [enterPosting, hcancel, finalAccount_eq, hfilter]
  · simp only [← finalAccount_eq] at hwait ⊢
    simp only [enterPosting, hcancel, hfilter, completeCancel, hwait]

/-! ### Reports -/

theorem reportRing_eq (s : State) (r : RingId) : reportRing s r = if r = 0 then 0 else (s.jobRing r).bound := rfl

/-- A report of a ring that is not FAULTED joins its queue (R131, R132). -/
theorem createReport_of_not_faulted {j : SlotId} {s : State} (body : ReportBody)
    (h : (s.poster (reportRing s (s.slot j).ring)).state ≠ .faulted) : createReport j body s = pushReport j body s := by
  have hstate : ((pushReport j body s).poster (reportRing s (s.slot j).ring)).state =
      (s.poster (reportRing s (s.slot j).ring)).state := by
    unfold pushReport
    rw [State.poster_modPoster_self]
    rfl
  unfold createReport
  simp only [hstate, h, if_false]

/-- A report of a FAULTED ring with nothing queued leaves no trace but the freeing of its slot (R146, R166). -/
theorem createReport_of_faulted {j : SlotId} {s : State} (body : ReportBody)
    (h : (s.poster (reportRing s (s.slot j).ring)).state = .faulted)
    (hqueue : (s.poster (reportRing s (s.slot j).ring)).queue = []) (hreports : (s.slot j).reports = []) :
    createReport j body s =
      match body with
      | .final _ _ => freeSlot j s
      | .progress _ _ _ => s := by
  generalize hn : reportRing s (s.slot j).ring = n at h hqueue
  have hpush : pushReport j body s =
      (s.modSlot j fun x => { x with
        reports := x.reports ++
          [{ kindCode := (s.slot j).kindCode, tag := (s.slot j).tag, ring := (s.slot j).ring, body := body }] }).modPoster n
        fun p => { p with queue := p.queue ++ [j] } := by
    rw [← hn]
    rfl
  have hrestored : ((pushReport j body s).modPoster n fun p => { p with queue := [] }).modSlot j
      (fun x => { x with reports := [] }) = s := by
    rw [hpush, State.modPoster_modPoster, modPoster_modSlot_comm, State.modSlot_modSlot, modSlot_eq_self (by rw [← hreports]), modPoster_eq_self (by rw [← hqueue])]
  have hstate : ((pushReport j body s).poster n).state = .faulted := by simp [hpush, h]
  have hhead : ((pushReport j body s).poster n).queue = [j] := by simp [hpush, hqueue]
  have hlist : ((pushReport j body s).slot j).reports =
      [{ kindCode := (s.slot j).kindCode, tag := (s.slot j).tag, ring := (s.slot j).ring, body := body }] := by
    simp [hpush, hreports]
  simp only [createReport, hn, hstate, if_true, hhead, List.length_singleton, dropHeads, dropHead, hlist, hrestored]
  cases body <;> rfl

/-- Settles O25: by whether the bound ring is FAULTED with an empty queue. -/
theorem reportsAreQueuedOrDiscarded : Obligations.ReportsAreQueuedOrDiscarded := by
  unfold Obligations.ReportsAreQueuedOrDiscarded
  refine ⟨fun j body s => ⟨fun h => ?_, fun h hqueue hreports => ?_⟩, fun _ _ _ _ => rfl⟩
  · rw [createReport_of_not_faulted body h]
    rfl
  · rw [createReport_of_faulted body h hqueue hreports] <;> rfl

/-! ### Freed slots -/

/-- Settles O26: without a close that waits, with more slots to wait for, and with the last one. -/
theorem aFreedSlotCountsTowardTheClose : Obligations.AFreedSlotCountsTowardTheClose := by
  unfold Obligations.AFreedSlotCountsTowardTheClose
  intro j s
  refine ⟨fun hcloser => ?_, fun c remaining ended waited hcloser hne hwait => ?_⟩
  · simp only [freeSlot, countFreed, State.modSlot_jobRing, hcloser]
  · have hfreed : freeSlot j s =
        if remaining ≤ 1 then
          completeClose (s.slot j).ring c ended waited (s.modSlot j fun x => { x with state := .free, reports := [] })
        else (s.modSlot j fun x => { x with state := .free, reports := [] }).modSlot c
          fun x => { x with wait := .close (s.slot j).ring (remaining - 1) ended waited } := by
      simp only [freeSlot, countFreed, State.modSlot_jobRing, hcloser, State.slot_modSlot_ne (h := hne), hwait]
    rw [hfreed]
    refine ⟨fun hmore => ?_, fun hlast hring hopen => ?_⟩
    · rw [if_neg (Nat.not_le.2 hmore)]
    · rw [if_pos hlast.le, answer, createReport_of_not_faulted]
      · rfl
      · simpa [hne, hring, State.slot_modSlot_ne, reportRing_eq] using hopen

/-! ### Tags -/

theorem lookupTag_zero (tag : Tag) (s : State) : lookupTag 0 tag s = .absent := rfl

theorem endedJob_iff (r : RingId) (tag : Tag) (x : Slot) :
    endedJob r tag x = true ↔ x.state = .posting ∧ x.stagingLane ≠ none ∧ x.ring = r ∧ x.tag = tag := by
  simp [endedJob, and_assoc, Option.isSome_iff_ne_none]

theorem ringOf_ofNat (r : RingId) : ringOf (BitVec.ofNat 8 r.val) = some r := by
  have hval : (BitVec.ofNat 8 r.val).toNat = r.val := by
    rw [BitVec.toNat_ofNat, Nat.mod_eq_of_lt]
    have := r.isLt
    omega
  unfold ringOf
  simp [hval, r.isLt]

/-- Settles O27: the first entry of the map with the tag, or else the slots in POSTING. -/
theorem tagLookupsAnswerLiveEndedOrAbsent : Obligations.TagLookupsAnswerLiveEndedOrAbsent := by
  unfold Obligations.TagLookupsAnswerLiveEndedOrAbsent
  intro r tag s
  refine ⟨rfl, fun b hb => ?_, by rw [lookupByte, ringOf_ofNat], fun hr => ⟨?_, fun hnone => ?_⟩⟩
  · rw [lookupByte, ringOf, dif_neg (by omega)]
  · intro before entry behind hmap htag hbefore
    have hfind : (s.tagMap r).find? (fun e => e.tag == tag) = some entry := by
      rw [hmap, List.find?_append, List.find?_eq_none.2 (by simpa using hbefore)]
      simp [htag]
    simp only [lookupTag, if_neg hr, hfind]
  · have hfind : (s.tagMap r).find? (fun e => e.tag == tag) = none := List.find?_eq_none.2 (by simpa using hnone)
    have hlookup : lookupTag r tag s =
        if allSlots.any fun j => endedJob r tag (s.slot j) then .ended else .absent := by
      simp only [lookupTag, if_neg hr, hfind]
    have hany : (allSlots.any fun j => endedJob r tag (s.slot j)) = true ↔
        ∃ j : SlotId, (s.slot j).state = .posting ∧ (s.slot j).stagingLane ≠ none ∧ (s.slot j).ring = r ∧
          (s.slot j).tag = tag := by
      simp [allSlots, endedJob_iff]
    rw [hlookup, ← hany]
    constructor <;> split <;> simp_all

end Sys2Proof.Machine
end

section
/-! SUPPORT. The Host Write Port's grant decision (R140), and what the decisions that close an event leave unchanged (O3,
O5). -/

namespace Sys2Proof.Machine

-- One proof at a time: every thread reserves memory of its own, and the check bounds the whole.
set_option Elab.async false

/-! ### The writes that a grant issues -/

/-- Lane `l` is granted at position `k`: its record `r` stands in the write slot and is issued (R76). -/
def State.withLaneWrite (s : State) (k : Fin 25) (l : LaneId) (r : ResultRecord) (rest : List ResultRecord) : State :=
  { s.modLane l (fun x => { x with fifo := rest, writeSlot := some r }) with
    accesses := s.accesses ++ [.record l]
    port := { position := k, busy := some (.record l r.place (recordBytes r)) } }

/-- Poster 0 is granted at position `k` and issues the event report `e` (R135, R139). -/
def State.withEventWrite (s : State) (k : Fin 25) (e : EventReport) : State :=
  { s.modPoster 0 (fun p => { p with inFlight := some .event }) with
    accesses := s.accesses ++ [.report 0]
    eventsLost := 0
    port :=
      { position := k
        busy := some (.report 0 ((s.poster 0).base + BitVec.ofNat 64 (32 * (s.poster 0).tail))
          (eventBytes e ((s.poster 0).sequence + 1) s.eventsLost)) } }

/-- The report `r` as the poster of ring `n` fills it at its issue (R124, R130, R135). -/
def State.filledReport (s : State) (n : RingId) (r : Report) : Report :=
  { r with
    inFlight := true
    sequence := (s.poster n).sequence + 1
    ringHead := BitVec.ofNat 16 (s.jobRing r.ring).head }

/-- The poster of ring `n` is granted at position `k` and issues the report `r` of slot `j` (R135). -/
def State.withReportWrite (s : State) (k : Fin 25) (n : RingId) (j : SlotId) (r : Report) (others : List Report) : State :=
  { (s.modSlot j fun x => { x with reports := s.filledReport n r :: others }).modPoster n
      (fun p => { p with inFlight := some (.slot j) }) with
    accesses := s.accesses ++ [.report n]
    port :=
      { position := k
        busy := some (.report n ((s.poster n).base + BitVec.ofNat 64 (32 * (s.poster n).tail))
          (reportBytes (s.filledReport n r))) } }

/-- The generator is granted at position `k` and issues a message of vector `v` (R145). -/
def State.withMessage (s : State) (k : Fin 25) (v : Vec) (rest : List Vec) : State :=
  { s with
    accesses := s.accesses ++ [.message]
    messages := rest
    port := { position := k, busy := some (.message v) } }

section
variable {s : State} {k : Fin 25}

theorem grantAt_of_lane {l : LaneId} (hk : k.val = l.val) :
    grantAt k s = grantLane l { s with port := { s.port with position := k } } := by
  have hlane : k.val < 16 := hk ▸ l.isLt
  have heq : (⟨k.val, hlane⟩ : Fin 16) = l := Fin.ext hk
  simp only [grantAt, hlane, dif_pos, heq]

theorem grantAt_of_poster {n : RingId} (hk : k.val = 16 + n.val) :
    grantAt k s = grantPoster n { s with port := { s.port with position := k } } := by
  have hlane : ¬ k.val < 16 := by omega
  have hposter : k.val - 16 < 8 := by omega
  have heq : (⟨k.val - 16, hposter⟩ : Fin 8) = n := Fin.ext (by simp [hk])
  simp only [grantAt, hlane, hposter, dif_pos, dif_neg, not_false_eq_true, heq]

theorem grantAt_of_generator (hk : k.val = 24) :
    grantAt k s = grantGenerator { s with port := { s.port with position := k } } := by
  simp only [grantAt, hk]
  rfl

theorem grantAt_lane {l : LaneId} {r : ResultRecord} {rest : List ResultRecord} (hk : k.val = l.val)
    (hfifo : (s.lane l).fifo = r :: rest) : grantAt k s = s.withLaneWrite k l r rest := by
  rw [grantAt_of_lane hk]
  unfold grantLane
  rw [show (State.lane { s with port := { s.port with position := k } } l).fifo = r :: rest from hfifo]
  rfl

/-- Poster 0 posts an event before any report (R135, R139). -/
theorem grantPoster_of_event {e : EventReport} {others : List EventReport} (hevents : s.events = e :: others) :
    grantPoster 0 s = issueEvent e s := by
  simp only [grantPoster, if_true, hevents]

theorem grantAt_event {e : EventReport} {others : List EventReport} (hk : k.val = 16) (hevents : s.events = e :: others) :
    grantAt k s = s.withEventWrite k e := by
  rw [grantAt_of_poster (n := 0) hk, grantPoster_of_event (others := others) (by exact hevents)]
  unfold issueEvent State.withEventWrite issueAccess
  simp only
  congr 1

/-- A poster that has no event to post issues the report at the head of its queue (R135). -/
theorem grantPoster_of_no_event {n : RingId} (h : n = 0 → s.events = []) :
    grantPoster n s =
      match (s.poster n).queue with
      | [] => s
      | j :: _ =>
        match (s.slot j).reports with
        | [] => s
        | r :: others => issueReport n j r others s := by
  have hevents : (if n = 0 then s.events else []) = [] := by
    split
    · next hn => exact h hn
    · rfl
  simp only [grantPoster, hevents] <;> rfl

theorem grantAt_report {n : RingId} {j : SlotId} {q : List SlotId} {r : Report} {others : List Report}
    (hk : k.val = 16 + n.val) (hevents : n = 0 → s.events = []) (hqueue : (s.poster n).queue = j :: q)
    (hreports : (s.slot j).reports = r :: others) : grantAt k s = s.withReportWrite k n j r others := by
  rw [grantAt_of_poster hk, grantPoster_of_no_event (by exact hevents)]
  rw [show (State.poster { s with port := { s.port with position := k } } n).queue = j :: q from hqueue]
  simp only
  rw [show (State.slot { s with port := { s.port with position := k } } j).reports = r :: others from hreports]
  rfl

theorem grantAt_message {v : Vec} {rest : List Vec} (hk : k.val = 24) (hmessages : s.messages = v :: rest) :
    grantAt k s = s.withMessage k v rest := by
  rw [grantAt_of_generator hk]
  simp only [grantGenerator, hmessages]
  rfl

/-! ### The requests that stand -/

theorem laneRequests_iff (l : LaneId) :
    laneRequests s l = true ↔ (s.lane l).fifo ≠ [] ∧ (s.lane l).writeSlot = none := by
  simp [laneRequests]

theorem posterRequests_iff (n : RingId) :
    posterRequests s n = true ↔
      (s.poster n).state = .open ∧ (s.poster n).inFlight = none ∧
        ((s.poster n).tail + 1) % (s.poster n).size ≠ (s.poster n).head ∧
        ((s.poster n).queue ≠ [] ∨ (n = 0 ∧ s.events ≠ [])) := by
  cases h : (s.poster n).inFlight with
  | none => simp [posterRequests, Poster.full, Poster.overtaken, h, and_assoc]
  | some _ => simp [posterRequests, h]

theorem generatorRequests_iff : generatorRequests s = true ↔ s.messages ≠ [] := by simp [generatorRequests]

theorem requestStands_of_lane {l : LaneId} (hk : k.val = l.val) : requestStands s k = laneRequests s l := by
  have hlane : k.val < 16 := hk ▸ l.isLt
  have heq : (⟨k.val, hlane⟩ : Fin 16) = l := Fin.ext hk
  simp only [requestStands, hlane, dif_pos, heq]

theorem requestStands_of_poster {n : RingId} (hk : k.val = 16 + n.val) : requestStands s k = posterRequests s n := by
  have hlane : ¬ k.val < 16 := by omega
  have hposter : k.val - 16 < 8 := by omega
  have heq : (⟨k.val - 16, hposter⟩ : Fin 8) = n := Fin.ext (by simp [hk])
  simp only [requestStands, hlane, hposter, dif_pos, dif_neg, not_false_eq_true, heq]

theorem requestStands_of_generator (hk : k.val = 24) : requestStands s k = generatorRequests s := by
  simp only [requestStands, hk]
  rfl

/-- The three kinds of requester, by their positions in the rotation (R140). -/
theorem position_cases (k : Fin 25) :
    (∃ l : LaneId, k.val = l.val) ∨ (∃ n : RingId, k.val = 16 + n.val) ∨ k.val = 24 := by
  by_cases hlane : k.val < 16
  · exact .inl ⟨⟨k.val, hlane⟩, rfl⟩
  · by_cases hposter : k.val < 24
    · exact .inr (.inl ⟨⟨k.val - 16, by omega⟩, by simp; omega⟩)
    · exact .inr (.inr (by omega))

theorem requestStands_iff :
    requestStands s k = true ↔
      (∃ l : LaneId, k.val = l.val ∧ (s.lane l).fifo ≠ [] ∧ (s.lane l).writeSlot = none) ∨
      (∃ n : RingId, k.val = 16 + n.val ∧ (s.poster n).state = .open ∧ (s.poster n).inFlight = none ∧
        ((s.poster n).tail + 1) % (s.poster n).size ≠ (s.poster n).head ∧
        ((s.poster n).queue ≠ [] ∨ (n = 0 ∧ s.events ≠ []))) ∨
      (k.val = 24 ∧ s.messages ≠ []) := by
  constructor
  · intro h
    obtain ⟨l, hk⟩ | ⟨n, hk⟩ | hk := position_cases k
    · rw [requestStands_of_lane hk, laneRequests_iff] at h
      exact .inl ⟨l, hk, h⟩
    · rw [requestStands_of_poster hk, posterRequests_iff] at h
      exact .inr (.inl ⟨n, hk, h⟩)
    · rw [requestStands_of_generator hk, generatorRequests_iff] at h
      exact .inr (.inr ⟨hk, h⟩)
  · rintro (⟨l, hk, h⟩ | ⟨n, hk, h⟩ | ⟨hk, h⟩)
    · rwa [requestStands_of_lane hk, laneRequests_iff]
    · rwa [requestStands_of_poster hk, posterRequests_iff]
    · rwa [requestStands_of_generator hk, generatorRequests_iff]

/-! ### The decision -/

theorem portDecision_eq_self (h : s.ctl ≠ .running ∨ s.port.busy ≠ none ∨ ∀ k, requestStands s k = false) :
    portDecision s = s := by
  obtain hctl | hbusy | hnone := h
  · simp [portDecision, running_eq_true_iff, hctl]
  · simp [portDecision, hbusy]
  · exact portDecision_of_no_request hnone

/-- The search takes the first position of the rotation whose request stands (R140). -/
theorem portDecision_of_first {d : Nat} (hrun : s.ctl = .running) (hbusy : s.port.busy = none) (hd : d < 25)
    (hstands : requestStands s (Fin.ofNat 25 (s.port.position.val + 1 + d)) = true)
    (hfirst : ∀ i < d, requestStands s (Fin.ofNat 25 (s.port.position.val + 1 + i)) = false) :
    portDecision s = grantAt (Fin.ofNat 25 (s.port.position.val + 1 + d)) s := by
  have hnext : nextGrant s = some (Fin.ofNat 25 (s.port.position.val + 1 + d)) := by
    rw [nextGrant, List.find?_eq_some_iff_getElem]
    refine ⟨hstands, d, by simpa [rotationFrom] using hd, by simp [rotationFrom], fun i hi => ?_⟩
    simpa [rotationFrom] using hfirst i hi
  simp only [portDecision, running_eq_true_iff.2 hrun, hbusy, hnext, Option.isNone_none, Bool.and_self, if_true]

/-- Every grant is of a request that stands (R140). -/
theorem portDecision_cases (s : State) :
    portDecision s = s ∨ ∃ k, requestStands s k = true ∧ portDecision s = grantAt k s := by
  unfold portDecision
  split
  · split
    · exact .inl rfl
    · next k hk => exact .inr ⟨k, List.find?_some hk, rfl⟩
  · exact .inl rfl

end

/-- Settles O5: a request stands as the model tests it, and the grant is the first of the rotation by distance. -/
theorem grantDecisionFollowsTheRotation : Obligations.GrantDecisionFollowsTheRotation := by
  unfold Obligations.GrantDecisionFollowsTheRotation
  intro stands s
  have hstands : ∀ k, requestStands s k = true ↔ stands s k := fun k => requestStands_iff
  have hnot : ∀ k, requestStands s k = false ↔ ¬ stands s k := fun k => by rw [← hstands, Bool.not_eq_true]
  refine ⟨?_, fun hrun hbusy d k hd hk hat hfirst => ?_⟩
  · rintro (hctl | hbusy | hnone)
    · exact portDecision_eq_self (.inl hctl)
    · exact portDecision_eq_self (.inr (.inl hbusy))
    · exact portDecision_eq_self (.inr (.inr fun k => (hnot k).2 (hnone k)))
  · have hgrant : portDecision s = grantAt k s := by
      rw [hk]
      exact portDecision_of_first hrun hbusy hd ((hstands _).2 (hk ▸ hat)) fun i hi => (hnot _).2 (hfirst i hi)
    rw [hgrant]
    exact ⟨fun l r rest hl hfifo => grantAt_lane hl hfifo, fun e others hn hevents => grantAt_event hn hevents,
      fun n j q r others hn hevents hqueue hreports => grantAt_report hn hevents hqueue hreports,
      fun v rest hg hmessages => grantAt_message hg hmessages⟩

/-! ### What the closing decisions leave unchanged -/

/-- Lane `y` is lane `x` with at most the head record moved into the write slot (R76). -/
def Lane.Issues (x y : Lane) : Prop :=
  y = { x with fifo := y.fifo, writeSlot := y.writeSlot } ∧
    y.writeSlot.toList ++ y.fifo = x.writeSlot.toList ++ x.fifo

/-- Slot `y` is slot `x` with at most the head of its report list filled at its issue (R135). -/
def Slot.Issues (x y : Slot) : Prop :=
  y = { x with reports := y.reports } ∧ y.reports.map Report.body = x.reports.map Report.body

/-- A grant leaves everything but what its requester issues and the port (R140). -/
structure State.Issues (s t : State) : Prop where
  rest : t = { s with
    lanes := t.lanes
    slots := t.slots
    posters := t.posters
    messages := t.messages
    eventsLost := t.eventsLost
    accesses := t.accesses
    port := t.port }
  lane : ∀ l, (s.lane l).Issues (t.lane l)
  slot : ∀ j, (s.slot j).Issues (t.slot j)
  poster : ∀ n, t.poster n = { s.poster n with inFlight := (t.poster n).inFlight }
  messages : t.messages = s.messages ∨ t.messages = s.messages.tail
  eventsLost : t.eventsLost = s.eventsLost ∨ t.eventsLost = 0
  accesses : ∃ issued, t.accesses = s.accesses ++ issued

section
variable {s : State} {k : Fin 25}

theorem State.Issues.refl (s : State) : s.Issues s :=
  ⟨rfl, fun _ => ⟨rfl, rfl⟩, fun _ => ⟨rfl, rfl⟩, fun _ => rfl, .inl rfl, .inl rfl, [], by simp⟩

theorem withLaneWrite_issues {l : LaneId} {r : ResultRecord} {rest : List ResultRecord} (hfifo : (s.lane l).fifo = r :: rest)
    (hslot : (s.lane l).writeSlot = none) : s.Issues (s.withLaneWrite k l r rest) := by
  refine { State.Issues.refl s with rest := rfl, lane := fun m => ?_, accesses := ⟨_, rfl⟩ }
  show (s.lane m).Issues ((s.modLane l fun x => { x with fifo := rest, writeSlot := some r }).lane m)
  rw [State.lane_modLane]
  split
  · next h => subst h; exact ⟨rfl, by rw [hfifo, hslot]; rfl⟩
  · exact ⟨rfl, rfl⟩

/-- A poster's record changes only in the write in flight (R134). -/
theorem modPoster_inFlight (n m : RingId) (src : ReportSource) :
    (s.modPoster n fun p => { p with inFlight := some src }).poster m =
      { s.poster m with inFlight := ((s.modPoster n fun p => { p with inFlight := some src }).poster m).inFlight } := by
  rw [State.poster_modPoster]
  split
  · next h => subst h; rfl
  · rfl

theorem withEventWrite_issues (e : EventReport) : s.Issues (s.withEventWrite k e) :=
  { State.Issues.refl s with
    rest := rfl
    poster := fun m => modPoster_inFlight 0 m .event
    eventsLost := .inr rfl
    accesses := ⟨_, rfl⟩ }

theorem withReportWrite_issues {n : RingId} {j : SlotId} {r : Report} {others : List Report}
    (hreports : (s.slot j).reports = r :: others) : s.Issues (s.withReportWrite k n j r others) := by
  refine { State.Issues.refl s with
    rest := rfl
    poster := fun m => modPoster_inFlight n m (.slot j)
    slot := fun i => ?_
    accesses := ⟨_, rfl⟩ }
  show (s.slot i).Issues ((s.modSlot j fun x => { x with reports := s.filledReport n r :: others }).slot i)
  rw [State.slot_modSlot]
  split
  · next h => subst h; exact ⟨rfl, by rw [hreports]; rfl⟩
  · exact ⟨rfl, rfl⟩

theorem withMessage_issues {v : Vec} {rest : List Vec} (hmessages : s.messages = v :: rest) :
    s.Issues (s.withMessage k v rest) :=
  { State.Issues.refl s with rest := rfl, messages := .inr (by rw [hmessages]; rfl), accesses := ⟨_, rfl⟩ }

theorem moved_issues (s : State) (k : Fin 25) : s.Issues { s with port := { s.port with position := k } } :=
  { State.Issues.refl s with rest := rfl }

theorem grantAt_issues (h : requestStands s k = true) : s.Issues (grantAt k s) := by
  obtain ⟨l, hk⟩ | ⟨n, hk⟩ | hk := position_cases k
  · rw [requestStands_of_lane hk, laneRequests_iff] at h
    obtain ⟨r, rest, hfifo⟩ := List.exists_cons_of_ne_nil h.1
    rw [grantAt_lane hk hfifo]
    exact withLaneWrite_issues hfifo h.2
  · by_cases hevent : n = 0 ∧ s.events ≠ []
    · obtain ⟨rfl, hne⟩ := hevent
      obtain ⟨e, others, hevents⟩ := List.exists_cons_of_ne_nil hne
      rw [grantAt_event hk hevents]
      exact withEventWrite_issues e
    · have hnone : n = 0 → s.events = [] := fun hn => by_contra fun hne => hevent ⟨hn, hne⟩
      cases hqueue : (s.poster n).queue with
      | nil =>
        rw [grantAt_of_poster hk, grantPoster_of_no_event (by exact hnone)]
        rw [show (State.poster { s with port := { s.port with position := k } } n).queue = [] from hqueue]
        exact moved_issues s k
      | cons j q =>
        cases hreports : (s.slot j).reports with
        | nil =>
          rw [grantAt_of_poster hk, grantPoster_of_no_event (by exact hnone)]
          rw [show (State.poster { s with port := { s.port with position := k } } n).queue = j :: q from hqueue]
          simp only
          rw [show (State.slot { s with port := { s.port with position := k } } j).reports = [] from hreports]
          exact moved_issues s k
        | cons r others =>
          rw [grantAt_report hk hnone hqueue hreports]
          exact withReportWrite_issues hreports
  · rw [requestStands_of_generator hk, generatorRequests_iff] at h
    obtain ⟨v, rest, hmessages⟩ := List.exists_cons_of_ne_nil h
    rw [grantAt_message hk hmessages]
    exact withMessage_issues hmessages

theorem portDecision_issues (s : State) : s.Issues (portDecision s) := by
  obtain h | ⟨k, hk, h⟩ := portDecision_cases s
  · rw [h]; exact .refl s
  · rw [h]; exact grantAt_issues hk

/-- A fetch decision leaves everything but the read in flight, its slot, and the rotation (R112 to R114). -/
structure State.Reads (s t : State) : Prop where
  rest : t = { s with
    slots := t.slots, jobRings := t.jobRings, pointer := t.pointer, fetch := t.fetch, accesses := t.accesses }
  slot : ∀ j, (s.slot j).state ≠ .free → t.slot j = s.slot j
  jobRing : ∀ r, t.jobRing r = { s.jobRing r with credit := (t.jobRing r).credit }
  accesses : ∃ issued, t.accesses = s.accesses ++ issued

/-- An update of one ring's credit leaves the rest of every ring. -/
theorem modJobRing_credit {u : State} {r : RingId} {credit : JobRing → Nat}
    (h : ∀ q, u.jobRing q = { s.jobRing q with credit := (u.jobRing q).credit }) (q : RingId) :
    (u.modJobRing r fun x => { x with credit := credit x }).jobRing q =
      { s.jobRing q with
        credit := ((u.modJobRing r fun x => { x with credit := credit x }).jobRing q).credit } := by
  rw [State.jobRing_modJobRing]
  split
  · next hq => subst hq; rw [h q]
  · exact h q

theorem movePointer_jobRing (r q : RingId) :
    (movePointer r s).jobRing q = { s.jobRing q with credit := ((movePointer r s).jobRing q).credit } := by
  unfold movePointer
  split
  · rfl
  · split
    · rfl
    · exact modJobRing_credit (s := s) (u := s.modJobRing s.pointer fun q => { q with credit := 0 })
        (modJobRing_credit fun _ => rfl) q

theorem movePointer_rest (r : RingId) :
    movePointer r s = { s with jobRings := (movePointer r s).jobRings, pointer := (movePointer r s).pointer } := by
  unfold movePointer
  split
  · rfl
  · split <;> rfl

theorem issueFetch_reads {r : RingId} {j : SlotId} (hfree : (s.slot j).state = .free) : s.Reads (issueFetch r j s) := by
  have hslot : ∀ i, (s.slot i).state ≠ .free → (s.setSlot j { state := .fetching, ring := r }).slot i = s.slot i := by
    intro i hi
    have hne : i ≠ j := by
      rintro rfl
      exact hi hfree
    exact State.slot_setSlot_ne (h := hne) ..
  by_cases hr : r = 0
  · subst hr
    exact ⟨rfl, hslot, fun _ => rfl, _, rfl⟩
  · rw [issueFetch_of_ne_zero hr]
    exact ⟨rfl, hslot, modJobRing_credit (u := s.withRead r j) fun _ => rfl, _, rfl⟩

theorem fetchDecision_reads (s : State) : s.Reads (fetchDecision s) := by
  unfold fetchDecision
  split
  · split
    · next r j hring hslot =>
      have hfree : ((movePointer r s).slot j).state = .free := by
        rw [movePointer_rest]
        exact (lowestFree_eq_some_iff.1 hslot).1
      have hread := issueFetch_reads (r := r) hfree
      have hmove := movePointer_jobRing (s := s) r
      have hrest := movePointer_rest (s := s) r
      generalize movePointer r s = v at hread hmove hrest
      refine ⟨?_, fun i hi => ?_, fun q => ?_, ?_⟩
      · exact hread.rest.trans (by rw [hrest])
      · have hi' : (v.slot i) = s.slot i := by rw [hrest]; rfl
        rw [hread.slot i (by rwa [hi']), hi']
      · exact (hread.jobRing q).trans (by rw [hmove q])
      · obtain ⟨issued, h⟩ := hread.accesses
        exact ⟨issued, h.trans (by rw [hrest])⟩
    · exact ⟨rfl, fun _ _ => rfl, fun _ => rfl, [], by simp⟩
  · exact ⟨rfl, fun _ _ => rfl, fun _ => rfl, [], by simp⟩

end

/-- Settles O3: the fetch decision and the port decision each have a frame, and the two compose. -/
theorem settleChangesOnlyFetchAndPort : Obligations.SettleChangesOnlyFetchAndPort := by
  unfold Obligations.SettleChangesOnlyFetchAndPort
  intro u
  have hsame := settle_sameController u
  have hread := fetchDecision_reads u
  have hgrant := portDecision_issues (fetchDecision u)
  have hlanes (l : LaneId) : (fetchDecision u).lane l = u.lane l := by rw [hread.rest]; rfl
  have hposters (n : RingId) : (fetchDecision u).poster n = u.poster n := by rw [hread.rest]; rfl
  have hrings (r : RingId) : (settle u).jobRing r = (fetchDecision u).jobRing r := by
    show (portDecision (fetchDecision u)).jobRing r = _
    rw [hgrant.rest]
    rfl
  refine ⟨settle_eq_self, ⟨hsame.ctl, hsame.interruptEnable, hsame.configError, hsame.fatalCause, hsame.cringJobBase,
    hsame.cringRptBase, hsame.cringJobSize, hsame.cringRptSize, hsame.readData, hsame.timebase, hsame.timeHi, hsame.line,
    ?loans, ?tags, ?events, hsame.pending⟩, fun l => ?lane, fun j hj => ?slot, fun r => ?ring, fun n => ?poster, ?messages,
    ?lost, ?accesses⟩
  case loans => exact (congrArg State.loanMsgs hgrant.rest).trans (by rw [hread.rest])
  case tags => exact (congrArg State.tagMaps hgrant.rest).trans (by rw [hread.rest])
  case events => exact (congrArg State.events hgrant.rest).trans (by rw [hread.rest])
  case lane => exact hlanes l ▸ hgrant.lane l
  case slot => exact hread.slot j hj ▸ hgrant.slot j
  case ring =>
    rw [hrings]
    exact hread.jobRing r
  case poster => exact hposters n ▸ hgrant.poster n
  case messages =>
    have h : (fetchDecision u).messages = u.messages := by rw [hread.rest]
    exact h ▸ hgrant.messages
  case lost =>
    have h : (fetchDecision u).eventsLost = u.eventsLost := by rw [hread.rest]
    exact h ▸ hgrant.eventsLost
  case accesses =>
    obtain ⟨read, hr⟩ := hread.accesses
    obtain ⟨write, hw⟩ := hgrant.accesses
    exact ⟨read ++ write, by rw [← List.append_assoc, ← hr]; exact hw⟩

end Sys2Proof.Machine
end

section
/-! SUPPORT. Entries that have arrived: the tests in order, the refusals, and the ring and lane administration (O29 to O32,
O34, O37). -/

namespace Sys2Proof.Machine

-- One proof at a time: every thread reserves memory of its own, and the check bounds the whole.
set_option Elab.async false

/-! ### The delivery of an entry -/

section
variable {s : State} {f : FetchRecord}

/-- A delivered entry is taken by its act in the state it arrives in, and the closing decisions follow (R115). -/
theorem fetched_of_delivers (h : s.Delivers f) (e : Entry) (act : RingId → SlotId → State → State) :
    fetched e act s = .next (settle (act f.ring f.slot (s.delivered f e))) := by
  obtain ⟨hrun, hfetch, haccess, hopen⟩ := h
  have htake : takeEntry e act (finishAccess .fetch s) = act f.ring f.slot (s.delivered f e) := by
    have hfetch' : (finishAccess .fetch s).fetch = some f := hfetch
    have hopen' : ((finishAccess .fetch s).jobRing f.ring).state = .open := hopen
    simp only [takeEntry, hfetch', hopen', if_true]
    rfl
  rw [fetched, finishing_of_running _ haccess hrun, htake]

/-- A control request on ring 0 with a tag of its own passes steps 1 and 2 (R147). -/
theorem fetched_control (h : s.Delivers f) (hring : f.ring = 0) {e : Entry} {zeros : FinalBody}
    {act : SlotId → State → State} (htag : e.tag ≠ 0xFFFF) :
    fetched e (controlEntry e.tag zeros act) s = .next (settle (act f.slot (s.delivered f e))) := by
  have htag' : ¬ e.tag = Config.noTag := htag
  rw [fetched_of_delivers h, controlEntry, hring, if_neg (by simp), if_neg htag']

@[simp] theorem State.delivered_lane (e : Entry) (l : LaneId) : (s.delivered f e).lane l = s.lane l := rfl

@[simp] theorem State.delivered_poster (e : Entry) (n : RingId) : (s.delivered f e).poster n = s.poster n := rfl

@[simp] theorem State.delivered_tagMap (e : Entry) (r : RingId) : (s.delivered f e).tagMap r = s.tagMap r := rfl

theorem State.delivered_slot (e : Entry) :
    (s.delivered f e).slot f.slot =
      { s.slot f.slot with kindCode := e.kindCode, tag := e.tag, job := e.job, request := e.request } := by
  simp [State.delivered, State.slot]

end

/-! ### Kinds and tags that are refused -/

/-- Each control request is fetched, and its steps 1 and 2 taken, with the contents a refusal there reports (R147). -/
theorem exec_controlRequest {c : Instr} {entry : Entry} {zeros : FinalBody} (h : controlRequest c = some (entry, zeros)) :
    ∃ act, ∀ s, exec c s = fetched entry (controlEntry entry.tag zeros act) s := by
  cases c with
  | openReportRing e => cases h; exact ⟨openReportRing e, fun _ => rfl⟩
  | closeReportRing e => cases h; exact ⟨closeReportRing e, fun _ => rfl⟩
  | openJobRing e => cases h; exact ⟨openJobRing e, fun _ => rfl⟩
  | closeJobRing e => cases h; exact ⟨closeJobRing e, fun _ => rfl⟩
  | setLane e => cases h; exact ⟨setLane e, fun _ => rfl⟩
  | claimLane e => cases h; exact ⟨claimLane e, fun _ => rfl⟩
  | holdLane e => cases h; exact ⟨holdLane e, fun _ => rfl⟩
  | releaseLane e => cases h; exact ⟨releaseLane e, fun _ => rfl⟩
  | cancelJob e => cases h; exact ⟨cancelJob e, fun _ => rfl⟩
  | peekJob e => cases h; exact ⟨peekJob e, fun _ => rfl⟩
  | _ => exact nomatch h

theorem exec_measurement (kind : MeasKind) (e : MeasEntry) (s : State) :
    exec (measurementCommand kind e) s =
      fetched { kindCode := measurementCode kind, tag := e.tag, job := some { kind := kind, fields := e } }
        (dispatchMeasurement kind e) s := by
  cases kind <;> rfl

/-- Settles O30: the delivered entry is refused before its own check is reached. -/
theorem invalidKindsAndTagsAreRefused : Obligations.InvalidKindsAndTagsAreRefused := by
  unfold Obligations.InvalidKindsAndTagsAreRefused
  refine ⟨fun c entry zeros f s h hc => ⟨fun hring => ?_, fun hring htag => ?_⟩, fun kind e f s h hring => ?_,
    fun e f s h hring => ?_, fun code tag f s h hcode => ?_⟩
  · obtain ⟨act, hexec⟩ := exec_controlRequest hc
    rw [hexec, fetched_of_delivers h, controlEntry, if_pos hring]
  · obtain ⟨act, hexec⟩ := exec_controlRequest hc
    have htag' : entry.tag = Config.noTag := htag
    rw [hexec, fetched_of_delivers h, controlEntry, hring, if_neg (by simp), if_pos htag']
  · rw [exec_measurement, fetched_of_delivers h, dispatchMeasurement, measurementCheck, if_pos hring]
    rfl
  · show execAddBuffer e s = _
    rw [execAddBuffer, fetched_of_delivers h, dispatchAddBuffer, if_pos hring]
    rfl
  · show execUndefinedKindEntry code tag s = _
    rw [execUndefinedKindEntry, hcode, if_neg (by simp), fetched_of_delivers h]

/-! ### Tests in order -/

@[simp] theorem firstRefusal_nil : firstRefusal [] = none := rfl

theorem firstRefusal_cons (b : Bool) (st : Status) (rest : List (Bool × Status)) :
    firstRefusal ((b, st) :: rest) = if b then firstRefusal rest else some st := by
  cases b <;> rfl

theorem firstRefusal_append (a b : List (Bool × Status)) :
    firstRefusal (a ++ b) = (firstRefusal a).or (firstRefusal b) := by
  induction a with
  | nil => rfl
  | cons t a ih =>
    obtain ⟨passed, st⟩ := t
    cases passed
    · rfl
    · exact ih

theorem firstRefusal_eq_none_iff {tests : List (Bool × Status)} :
    firstRefusal tests = none ↔ ∀ t ∈ tests, t.1 = true := by
  induction tests with
  | nil => simp
  | cons t tests ih =>
    obtain ⟨passed, st⟩ := t
    cases passed
    · simp [firstRefusal_cons]
    · simp [firstRefusal_cons, ih]

/-- A check's answer from its refusal: the error, or what passed. -/
def refusalOr {α : Type} (passed : α) : Option Status → Except Status α
  | some st => .error st
  | none => .ok passed

/-- One test of a check, ahead of the tests `rest`. -/
theorem check_cons {α : Type} {passed : α} {c : Prop} [Decidable c] {b : Bool} {st : Status} {x : Except Status α}
    {rest : List (Bool × Status)} (h : c ↔ b = false) (hrest : b = true → x = refusalOr passed (firstRefusal rest)) :
    (if c then .error st else x) = refusalOr passed (firstRefusal ((b, st) :: rest)) := by
  cases b with
  | true => rw [if_neg (by simp [h]), hrest rfl]; rfl
  | false => rw [if_pos (h.2 rfl)]; rfl

/-! ### Lane and ring numbers -/

theorem laneOf_eq (b : Byte) : laneOf b = if b.toNat ≤ 15 then some (Fin.ofNat 16 b.toNat) else none := by
  unfold laneOf
  by_cases h : b.toNat < 16
  · rw [dif_pos h, if_pos (by omega)]
    exact congrArg some (Fin.ext (Nat.mod_eq_of_lt h).symm)
  · rw [dif_neg h, if_neg (by omega)]

theorem ringOf_eq (b : Byte) : ringOf b = if b.toNat ≤ 7 then some (Fin.ofNat 8 b.toNat) else none := by
  unfold ringOf
  by_cases h : b.toNat < 8
  · rw [dif_pos h, if_pos (by omega)]
    exact congrArg some (Fin.ext (Nat.mod_eq_of_lt h).symm)
  · rw [dif_neg h, if_neg (by omega)]

theorem ofNat_ring_eq_zero {b : Byte} (h : b.toNat ≤ 7) : (Fin.ofNat 8 b.toNat : RingId) = 0 ↔ b.toNat = 0 := by
  rw [Fin.ext_iff]
  show b.toNat % 8 = 0 ↔ _
  omega

theorem ioRingOf_eq (b : Byte) :
    ioRingOf b = if 1 ≤ b.toNat ∧ b.toNat ≤ 7 then some (Fin.ofNat 8 b.toNat) else none := by
  unfold ioRingOf
  rw [ringOf_eq]
  by_cases h : b.toNat ≤ 7
  · rw [if_pos h]
    show (if (Fin.ofNat 8 b.toNat : RingId) = 0 then none else some (Fin.ofNat 8 b.toNat)) = _
    simp only [ofNat_ring_eq_zero h]
    by_cases h0 : b.toNat = 0
    · rw [if_pos h0, if_neg (by omega)]
    · rw [if_neg h0, if_pos (by omega)]
  · simp only [h, and_false, if_false]

/-- The test of a lane number ahead of a check's other tests (R184). -/
theorem laneCheck_cons {α : Type} {passed : α} (b : Byte) (st : Status) {x : LaneId → Except Status α}
    {rest : List (Bool × Status)} (hrest : x (Fin.ofNat 16 b.toNat) = refusalOr passed (firstRefusal rest)) :
    (match laneOf b with | none => .error st | some l => x l) =
      refusalOr passed (firstRefusal ((decide (b.toNat ≤ 15), st) :: rest)) := by
  rw [laneOf_eq, firstRefusal_cons]
  by_cases h : b.toNat ≤ 15
  · simpa [h] using hrest
  · simp [h, refusalOr]

/-- The test of a ring number 0 to 7 ahead of a check's other tests (R184). -/
theorem ringCheck_cons {α : Type} {passed : α} (b : Byte) (st : Status) {x : RingId → Except Status α}
    {rest : List (Bool × Status)}
    (hrest : b.toNat ≤ 7 → x (Fin.ofNat 8 b.toNat) = refusalOr passed (firstRefusal rest)) :
    (match ringOf b with | none => .error st | some r => x r) =
      refusalOr passed (firstRefusal ((decide (b.toNat ≤ 7), st) :: rest)) := by
  rw [ringOf_eq, firstRefusal_cons]
  by_cases h : b.toNat ≤ 7
  · simpa [h] using hrest h
  · simp [h, refusalOr]

/-- The test of a ring number 1 to 7 ahead of a check's other tests (R149, R152, R154). -/
theorem ioRingCheck_cons {α : Type} {passed : α} (b : Byte) (st : Status) {x : RingId → Except Status α}
    {rest : List (Bool × Status)}
    (hrest : 1 ≤ b.toNat ∧ b.toNat ≤ 7 → x (Fin.ofNat 8 b.toNat) = refusalOr passed (firstRefusal rest)) :
    (match ioRingOf b with | none => .error st | some r => x r) =
      refusalOr passed (firstRefusal ((decide (1 ≤ b.toNat) && decide (b.toNat ≤ 7), st) :: rest)) := by
  rw [ioRingOf_eq, firstRefusal_cons]
  by_cases h : 1 ≤ b.toNat ∧ b.toNat ≤ 7
  · simpa [h] using hrest h
  · have : (decide (1 ≤ b.toNat) && decide (b.toNat ≤ 7)) = false := by simpa using h
    simp [h, this, refusalOr]

/-! ### Report rings -/

theorem openReportRingCheck_eq (e : OpenReportRingEntry) (d : State) :
    openReportRingCheck e d = refusalOr (Fin.ofNat 8 e.id.toNat) (firstRefusal
      [(decide (1 ≤ e.id.toNat) && decide (e.id.toNat ≤ 7), .badField),
       ((d.poster (Fin.ofNat 8 e.id.toNat)).state == .closed, .ringExists),
       (decide (e.base.toNat % 32 = 0), .badField),
       (decide (2 ≤ e.size.toNat) && decide (e.size.toNat ≤ 4096), .badField),
       (decide (e.vector.toNat ≤ 15), .badField),
       (decide (1 ≤ e.coalescingCount.toNat) && decide (e.coalescingCount.toNat ≤ 64), .badField)]) := by
  unfold openReportRingCheck
  refine ioRingCheck_cons _ _ fun _ => ?_
  refine check_cons (by simp) fun _ => ?_
  refine check_cons (by simp [aligned32]) fun _ => ?_
  refine check_cons (by rw [Bool.not_eq_true']; rfl) fun _ => ?_
  refine check_cons (by simp; omega) fun _ => ?_
  exact check_cons (by simp; omega) fun _ => rfl

theorem reportRingInUse_iff {n : RingId} (hn : n ≠ 0) (s : State) :
    reportRingInUse n s = true ↔ ¬ ∀ r : RingId, r = 0 ∨ (s.jobRing r).state = .closed ∨ (s.jobRing r).bound ≠ n := by
  simp only [reportRingInUse, allRings, List.any_eq_true, List.mem_finRange, true_and, not_forall, not_or,
    Bool.and_eq_true, bne_iff_ne, beq_iff_eq, reportRing_eq, not_not]
  refine exists_congr fun r => ?_
  by_cases hr : r = 0
  · simp [hr, hn.symm]
  · simp [hr]

theorem closeReportRingCheck_eq (e : CloseRingEntry) (d : State) :
    closeReportRingCheck e d = refusalOr (Fin.ofNat 8 e.id.toNat) (firstRefusal
      [(decide (1 ≤ e.id.toNat) && decide (e.id.toNat ≤ 7), .badField),
       ((d.poster (Fin.ofNat 8 e.id.toNat)).state != .closed, .noRing),
       (decide (∀ r : RingId, r = 0 ∨ (d.jobRing r).state = .closed ∨ (d.jobRing r).bound ≠ Fin.ofNat 8 e.id.toNat),
        .inUse)]) := by
  unfold closeReportRingCheck
  refine ioRingCheck_cons _ _ fun hid => ?_
  have hn : (Fin.ofNat 8 e.id.toNat : RingId) ≠ 0 := fun h => by
    have := (ofNat_ring_eq_zero hid.2).1 h
    omega
  refine check_cons (by simp) fun _ => ?_
  exact check_cons (by rw [reportRingInUse_iff hn, decide_eq_false_iff_not]) fun _ => rfl

/-- Settles O31: each request's check is its list of tests, and the outcome is the first refusal or none. -/
theorem reportRingsOpenAndClose : Obligations.ReportRingsOpenAndClose := by
  unfold Obligations.ReportRingsOpenAndClose
  refine ⟨fun e f s h hring htag => ?_, fun e f s h hring htag => ?_⟩
  · intro d n tests
    have hexec : exec (.openReportRing e) s = .next (settle (openReportRing e f.slot d)) :=
      fetched_control (zeros := .openReportRing 0 0) h hring htag
    rw [hexec, openReportRing, show openReportRingCheck e d = refusalOr n (firstRefusal tests) from
      openReportRingCheck_eq e d]
    cases firstRefusal tests <;> rfl
  · intro d n tests
    have hexec : exec (.closeReportRing e) s = .next (settle (closeReportRing e f.slot d)) :=
      fetched_control (zeros := .closeReportRing 0 0 0) h hring htag
    rw [hexec, closeReportRing, show closeReportRingCheck e d = refusalOr n (firstRefusal tests) from
      closeReportRingCheck_eq e d]
    cases firstRefusal tests <;> rfl

/-! ### Job rings -/

theorem openJobRingCheck_eq (e : OpenJobRingEntry) (d : State) :
    openJobRingCheck e d = refusalOr (Fin.ofNat 8 e.id.toNat, Fin.ofNat 8 e.reportRing.toNat) (firstRefusal
      [(decide (1 ≤ e.id.toNat) && decide (e.id.toNat ≤ 7), .badField),
       ((d.jobRing (Fin.ofNat 8 e.id.toNat)).state == .closed, .ringExists),
       (decide (e.base.toNat % 64 = 0), .badField),
       (decide (2 ≤ e.size.toNat) && decide (e.size.toNat ≤ 4096), .badField),
       (decide (1 ≤ e.reportRing.toNat) && decide (e.reportRing.toNat ≤ 7), .badField),
       (decide (1 ≤ e.weight.toNat) && decide (e.weight.toNat ≤ 16), .badField),
       ((d.poster (Fin.ofNat 8 e.reportRing.toNat)).state == .open, .noRing)]) := by
  unfold openJobRingCheck
  refine ioRingCheck_cons _ _ fun _ => ?_
  refine check_cons (by simp) fun _ => ?_
  refine check_cons (by simp [aligned64]) fun _ => ?_
  refine check_cons (by rw [Bool.not_eq_true']; rfl) fun _ => ?_
  refine ioRingCheck_cons _ _ fun _ => ?_
  refine check_cons (by simp; omega) fun _ => ?_
  exact check_cons (by simp) fun _ => rfl

/-- Settles O32: the check is the list of tests, and the outcome is the first refusal or none. -/
theorem jobRingsOpen : Obligations.JobRingsOpen := by
  unfold Obligations.JobRingsOpen
  intro e f s h hring htag d r n tests
  have hexec : exec (.openJobRing e) s = .next (settle (openJobRing e f.slot d)) :=
    fetched_control (zeros := .openJobRing 0 0 0) h hring htag
  rw [hexec, openJobRing, show openJobRingCheck e d = refusalOr (r, n) (firstRefusal tests) from
    openJobRingCheck_eq e d]
  cases firstRefusal tests <;> rfl

/-! ### Lane administration -/

theorem setLaneCheck_eq (e : SetLaneEntry) (d : State) :
    setLaneCheck e d = refusalOr (Fin.ofNat 16 e.lane.toNat) (firstRefusal
      [(decide (e.lane.toNat ≤ 15), .badLane),
       (decide (e.invert.toNat ≤ 1), .badField),
       ((d.lane (Fin.ofNat 16 e.lane.toNat)).active == none && (d.lane (Fin.ofNat 16 e.lane.toNat)).lentTo == none,
        .laneBusy)]) := by
  unfold setLaneCheck
  refine laneCheck_cons _ _ ?_
  refine check_cons (by simp) fun _ => ?_
  refine check_cons ?_ fun _ => rfl
  generalize d.lane (Fin.ofNat 16 e.lane.toNat) = x
  cases x.active <;> cases x.lentTo <;> simp

/-- The rings whose jobs use a lane: those queued or active on it, and those of the loans it holds (R159). -/
theorem foreignWork_eq_false_iff (s : State) (k : RingId) (x : Lane) :
    foreignWork s k x = false ↔
      (((x.queue ++ x.active.toList).map (fun j => (s.slot j).ring) ++
        (x.lentTo.toList ++ x.place.toList).map Loan.ring).all fun ring => ring == k) = true := by
  unfold foreignWork
  cases x.active <;> cases x.lentTo <;> cases x.place <;> simp [and_assoc]

/-- The owner that a CLAIM_LANE of a ring number gives: none for ring 0 (R159). -/
def claimedOwner (b : Byte) : Option RingId := if b = 0 then none else some (Fin.ofNat 8 b.toNat)

theorem ownerCode_claimedOwner {b : Byte} (h : b.toNat ≤ 7) : ownerCode (claimedOwner b) = b := by
  unfold claimedOwner
  split
  · next h0 => exact h0.symm
  · refine BitVec.eq_of_toNat_eq ?_
    show (BitVec.ofNat 8 (b.toNat % 8)).toNat = b.toNat
    rw [BitVec.toNat_ofNat]
    omega

theorem claimLaneCheck_eq (e : ClaimLaneEntry) (d : State) :
    claimLaneCheck e d = refusalOr (Fin.ofNat 16 e.lane.toNat, claimedOwner e.ring)
      (let k : RingId := Fin.ofNat 8 e.ring.toNat
      let x := d.lane (Fin.ofNat 16 e.lane.toNat)
      let users := (x.queue ++ x.active.toList).map (fun j => (d.slot j).ring) ++
        (x.lentTo.toList ++ x.place.toList).map Loan.ring
      firstRefusal
        [(decide (e.lane.toNat ≤ 15), .badLane),
         (decide (e.ring.toNat ≤ 7), .badField),
         (e.ring == 0 || (d.jobRing k).state == .open || (d.jobRing k).state == .faulted, .noRing),
         (e.ring == 0 || x.owner == none || x.owner == some k, .inUse),
         (e.ring == 0 || x.owner == some k || users.all fun ring => ring == k, .inUse)]) := by
  unfold claimLaneCheck
  refine laneCheck_cons _ _ ?_
  refine ringCheck_cons _ _ fun hring => ?_
  have hzero : (Fin.ofNat 8 e.ring.toNat : RingId) = 0 ↔ e.ring = 0 := by
    rw [ofNat_ring_eq_zero hring, ← BitVec.toNat_inj]
    rfl
  generalize d.lane (Fin.ofNat 16 e.lane.toNat) = x
  generalize hk : (Fin.ofNat 8 e.ring.toNat : RingId) = k at hzero ⊢
  by_cases h0 : e.ring = 0
  · simp [hzero.2 h0, h0, claimedOwner, firstRefusal_cons, refusalOr]
  · have hbeq : (e.ring == 0) = false := by simpa using h0
    rw [if_neg (hzero.not.2 h0), claimedOwner, if_neg h0, hk]
    simp only [hbeq, Bool.false_or]
    refine check_cons (by simp) fun _ => ?_
    by_cases howner : x.owner = some k
    · simp [howner, firstRefusal_cons, refusalOr]
    · have hnot : (x.owner == some k) = false := by simpa using howner
      rw [if_neg howner, hnot, Bool.or_false, Bool.false_or]
      refine check_cons (by simp [Option.isSome_iff_ne_none]) fun _ => ?_
      exact check_cons (by rw [← Bool.not_eq_true, ← foreignWork_eq_false_iff, Bool.not_eq_false])
        fun _ => rfl

/-- Settles O34: each request's check is its list of tests, and the outcome is the first refusal or none. -/
theorem lanesAreConfiguredAndClaimed : Obligations.LanesAreConfiguredAndClaimed := by
  unfold Obligations.LanesAreConfiguredAndClaimed
  refine ⟨fun e f s h hring htag => ?_, fun e f s h hring htag => ?_⟩
  · intro d l tests
    have hexec : exec (.setLane e) s = .next (settle (setLane e f.slot d)) :=
      fetched_control (zeros := .setLane 0 0 0) h hring htag
    rw [hexec, setLane, show setLaneCheck e d = refusalOr l (firstRefusal tests) from setLaneCheck_eq e d]
    cases firstRefusal tests with
    | some st => rfl
    | none =>
      have hlane : configuredLane e.filter (e.invert == 1) (d.line.getLsbD l.val) = fun x =>
          { x with
            filterWidth := e.filter
            invert := e.invert == 1
            filtered := s.line.getLsbD l.val ^^ (e.invert == 1)
            candidate := none
            formed := [] } := by
        funext x
        rw [configuredLane, Bool.bne_eq_xor]
        rfl
      simp only [refusalOr, hlane] <;> rfl
  · intro d l k x users tests
    have hexec : exec (.claimLane e) s = .next (settle (claimLane e f.slot d)) :=
      fetched_control (zeros := .claimLane 0 0 0) h hring htag
    rw [hexec, claimLane, show claimLaneCheck e d = refusalOr (l, claimedOwner e.ring) (firstRefusal tests) from
      claimLaneCheck_eq e d]
    cases htests : firstRefusal tests with
    | some st => rfl
    | none =>
      have hring7 : e.ring.toNat ≤ 7 := by
        have := firstRefusal_eq_none_iff.1 htests (decide (e.ring.toNat ≤ 7), .badField) (by simp [tests])
        simpa using this
      simp only [refusalOr, ownerCode_claimedOwner hring7]
      rfl

/-! ### Cancelling and inspecting -/

/-- Settles O37: by what the lookup finds, and the state of the slot found. -/
theorem jobsAreCancelledAndInspected : Obligations.JobsAreCancelledAndInspected := by
  unfold Obligations.JobsAreCancelledAndInspected
  intro e f s h hring htag d p
  have hcancel : exec (.cancelJob e) s = .next (settle (cancelJob e f.slot d)) :=
    fetched_control (zeros := .cancelJob 0 0 0) h hring htag
  have hpeek : exec (.peekJob e) s = .next (settle (peekJob e f.slot p)) :=
    fetched_control (zeros := .peekJob 0 0 0 0 0 0 0) h hring htag
  rw [hcancel, hpeek]
  refine ⟨fun hfound => ?_, fun hfound => ?_, fun t l hfound hlane => ⟨fun hstate => ?_, fun hstate => ?_, fun hstate => ?_⟩,
    fun hnone => ?_, fun t hfound => ?_⟩
  · simp only [cancelJob, hfound]
  · simp only [cancelJob, hfound]
    rfl
  · simp only [cancelJob, hfound, hstate]
    rfl
  · simp only [cancelJob, hfound, hstate, hlane, Option.getD_some, awaitTarget]
  · simp only [cancelJob, hfound, hstate, hlane, Option.getD_some, awaitTarget]
  · unfold peekJob
    cases hfound : lookupByte e.ring e.target p with
    | live t => exact absurd hfound (hnone t)
    | ended => rfl
    | absent => rfl
  · simp only [peekJob, hfound]

/-! ### ADD_BUFFER -/

theorem modSlot_congr {s : State} {j : SlotId} {g g' : Slot → Slot} (h : g (s.slot j) = g' (s.slot j)) :
    s.modSlot j g = s.modSlot j g' := by
  unfold State.modSlot
  rw [h]

/-- The slot that an ADD_BUFFER is for, when its tag is live (R79). -/
def foundSlot (d : State) : Lookup → Slot
  | .live t => d.slot t
  | _ => {}

/-- The tests of an ADD_BUFFER on rings 1 to 7, in order (R79). -/
def addBufferTests (e : AddBufferEntry) (found : Lookup) (target : Slot) : List (Bool × Status) :=
  [(e.tag != 0xFFFF, .badField),
   (decide (e.address.toNat % 32 = 0) && decide (1 ≤ e.capacity.toNat), .badBuffer),
   (found != .absent, .notFound),
   (found != .ended && (target.state == .pending || target.state == .active), .tooLate),
   (decide (target.queued.length < 4), .listFull)]

theorem bufferValid_eq (address : Addr) (capacity : BitVec 16) :
    bufferValid address capacity = (decide (address.toNat % 32 = 0) && decide (1 ≤ capacity.toNat)) := by
  have hcapacity : (capacity != 0) = decide (1 ≤ capacity.toNat) := by
    rw [Bool.eq_iff_iff, bne_iff_ne, decide_eq_true_iff, ne_eq, ← BitVec.toNat_inj]
    show ¬ capacity.toNat = 0 ↔ _
    omega
  rw [bufferValid, hcapacity]
  rfl

/-- The check of an ADD_BUFFER on rings 1 to 7: the slot it feeds, or the first failing test (R79). -/
def addBufferCheck (e : AddBufferEntry) (r : RingId) (s : State) : Except Status SlotId :=
  if e.tag = Config.noTag then .error .badField
  else if (!bufferValid e.address e.capacity) = true then .error .badBuffer
  else
    match feedTarget r e.target s with
    | .error st => .error st
    | .ok t => if Config.queuedBufferDepth ≤ (s.slot t).queued.length then .error .listFull else .ok t

/-- What an ADD_BUFFER's check decides (R79, R80). -/
def addBufferOutcome (e : AddBufferEntry) (j : SlotId) (s : State) : Except Status SlotId → State
  | .error st => answer j st (.addBuffer e.target 0) s
  | .ok t =>
    answer j .ok (.addBuffer e.target (bufferPosition (s.slot t)))
      (s.modSlot t (appendBuffer { base := e.address, capacity := e.capacity }))

theorem dispatchAddBuffer_eq {r : RingId} (hr : r ≠ 0) (e : AddBufferEntry) (j : SlotId) (s : State) :
    dispatchAddBuffer e r j s = addBufferOutcome e j s (addBufferCheck e r s) := by
  unfold dispatchAddBuffer addBufferCheck
  rw [if_neg hr]
  split
  · rfl
  · split
    · rfl
    · cases feedTarget r e.target s with
      | error st => rfl
      | ok t => simp only; split <;> rfl

/-- The slot of a live tag; of no other lookup a slot is read. -/
def foundId : Lookup → SlotId
  | .live t => t
  | _ => 0

theorem addBufferCheck_eq (e : AddBufferEntry) (r : RingId) (s : State) :
    addBufferCheck e r s = refusalOr (foundId (lookupTag r e.target s)) (firstRefusal
      (addBufferTests e (lookupTag r e.target s) (foundSlot s (lookupTag r e.target s)))) := by
  have htag : e.tag = Config.noTag ↔ (e.tag != 0xFFFF) = false := by
    rw [bne_eq_false_iff_eq]
    rfl
  unfold addBufferCheck addBufferTests
  refine check_cons htag fun _ => ?_
  refine check_cons (by rw [← bufferValid_eq, Bool.not_eq_true']) fun _ => ?_
  unfold feedTarget
  cases lookupTag r e.target s with
  | absent => rfl
  | ended => rfl
  | live t =>
    rw [show foundSlot s (.live t) = s.slot t from rfl, show foundId (.live t) = t from rfl]
    by_cases hstate : (s.slot t).state = .pending ∨ (s.slot t).state = .active
    · have htest : ((s.slot t).state == .pending || (s.slot t).state == .active) = true := by simpa using hstate
      simp only [if_pos hstate, htest]
      exact check_cons (by rw [decide_eq_false_iff_not]; exact Nat.not_lt.symm) fun _ => rfl
    · have htest : ((s.slot t).state == .pending || (s.slot t).state == .active) = false := by
        simpa using hstate
      simp only [if_neg hstate, htest]
      rfl

/-- Settles O29: the check is the list of tests; a buffer accepted is current or queued. -/
theorem addBufferFeedsALiveJob : Obligations.AddBufferFeedsALiveJob := by
  unfold Obligations.AddBufferFeedsALiveJob
  intro e f s h hring d found target tests buffer
  have htarget : target = foundSlot d found := by
    show (match found with | .live t => d.slot t | _ => {}) = _
    cases found <;> rfl
  have hexec : exec (.addBuffer e) s =
      .next (settle (addBufferOutcome e f.slot d (refusalOr (foundId found) (firstRefusal tests)))) := by
    have hdelivered : exec (.addBuffer e) s = .next (settle (dispatchAddBuffer e f.ring f.slot d)) :=
      fetched_of_delivers h _ _
    rw [hdelivered, dispatchAddBuffer_eq hring, addBufferCheck_eq]
    show _ = Host.Outcome.next (settle (addBufferOutcome e f.slot d (refusalOr (foundId found) (firstRefusal
      (addBufferTests e found target)))))
    rw [htarget]
  rw [hexec]
  cases htests : firstRefusal tests with
  | some st => rfl
  | none =>
    have hpass := firstRefusal_eq_none_iff.1 htests
    have hlive : found ≠ .absent ∧ found ≠ .ended := by
      have habsent := hpass (found != .absent, .notFound) (by simp [tests])
      have hended := hpass (found != .ended && (target.state == .pending || target.state == .active), .tooLate)
        (by simp [tests])
      simp only [Bool.and_eq_true, bne_iff_ne] at habsent hended
      exact ⟨habsent, hended.1⟩
    clear hpass htests hexec
    clear_value found
    cases found with
    | absent => exact absurd rfl hlive.1
    | ended => exact absurd rfl hlive.2
    | live t =>
      have hslot : target = d.slot t := htarget
      refine ⟨t, rfl, fun hcurrent => ?_, fun hcurrent => ?_⟩
      · rw [hslot] at hcurrent
        show Host.Outcome.next (settle (answer f.slot .ok (.addBuffer e.target (bufferPosition (d.slot t)))
          (d.modSlot t (appendBuffer buffer)))) = _
        rw [bufferPosition, hcurrent,
          modSlot_congr (g' := fun x => { x with current := some buffer, reserved := 0 }) (by rw [appendBuffer, hcurrent])]
      · rw [hslot] at hcurrent ⊢
        obtain ⟨b, hb⟩ := Option.ne_none_iff_exists'.1 hcurrent
        show Host.Outcome.next (settle (answer f.slot .ok (.addBuffer e.target (bufferPosition (d.slot t)))
          (d.modSlot t (appendBuffer buffer)))) = _
        rw [bufferPosition, hb,
          modSlot_congr (g' := fun x => { x with queued := x.queued ++ [buffer] }) (by rw [appendBuffer, hb])]

end Sys2Proof.Machine
end

section
/-! SUPPORT. Measurement entries: the order of the tests, and the offer to the lane (O28). -/

namespace Sys2Proof.Machine

-- One proof at a time: every thread reserves memory of its own, and the check bounds the whole.
set_option Elab.async false

/-! ### The tests of a measurement entry -/

/-- One test of a refusal, ahead of the tests `rest`. -/
theorem refusal_cons {c : Prop} [Decidable c] {b : Bool} {st : Status} {x : Option Status}
    {rest : List (Bool × Status)} (h : c ↔ b = false) (hrest : x = firstRefusal rest) :
    (if c then some st else x) = firstRefusal ((b, st) :: rest) := by
  cases b with
  | true => rw [if_neg (by simp [h]), hrest]; rfl
  | false => rw [if_pos (h.2 rfl)]; rfl

/-- Two conditions with one status are one test. -/
theorem refusal_cons_or {c c' : Prop} [Decidable c] [Decidable c'] {b : Bool} {st : Status} {x : Option Status}
    {rest : List (Bool × Status)} (h : c ∨ c' ↔ b = false) (hrest : x = firstRefusal rest) :
    (if c then some st else if c' then some st else x) = firstRefusal ((b, st) :: rest) := by
  rw [← refusal_cons h hrest]
  by_cases hc : c <;> by_cases hc' : c' <;> simp [hc, hc']

theorem refusal_append {x y : Option Status} {tests rest : List (Bool × Status)} (hx : x = firstRefusal tests)
    (hy : y = firstRefusal rest) : x.or y = firstRefusal (tests ++ rest) := by
  rw [firstRefusal_append, hx, hy]

/-- R18's tests, in its order. -/
theorem fieldCheck_eq (kind : MeasKind) (e : MeasEntry) : fieldCheck kind e = firstRefusal (fieldTests kind e) := by
  unfold fieldCheck fieldTests
  refine refusal_cons (by simp; omega) ?_
  refine refusal_cons (by cases kind <;> simp <;> omega) ?_
  refine refusal_cons (by cases kind <;> simp) ?_
  refine refusal_cons (by simp) ?_
  refine refusal_cons_or (by cases kind <;> simp [← BitVec.toNat_inj] <;> omega) ?_
  refine refusal_cons (by cases kind <;> simp [← BitVec.toNat_inj] <;> omega) ?_
  refine refusal_cons (by cases kind <;> simp) ?_
  refine refusal_cons (by cases kind <;> simp [← BitVec.toNat_inj] <;> omega) ?_
  refine refusal_cons (by cases kind <;> simp) ?_
  exact refusal_cons (by cases kind <;> simp) rfl

/-- Whether a ring's map holds the tag is what its lookup finds LIVE (R48, R49). -/
theorem lookup_refusal {r : RingId} (hr : r ≠ 0) (tag : Tag) (s : State) :
    (match lookupTag r tag s with | .live _ => some .dupTag | _ => none) =
      firstRefusal [((s.tagMap r).all fun t => t.tag != tag, .dupTag)] := by
  rw [firstRefusal_cons]
  by_cases hall : ((s.tagMap r).all fun t => t.tag != tag) = true
  · have hfind : (s.tagMap r).find? (fun t => t.tag == tag) = none := by
      rw [List.find?_eq_none]
      simpa using hall
    rw [if_pos hall]
    simp only [lookupTag, if_neg hr, hfind]
    split
    · next h => split at h <;> exact nomatch h
    · rfl
  · obtain ⟨t, ht⟩ : ∃ t, (s.tagMap r).find? (fun t => t.tag == tag) = some t := by
      rw [← Option.isSome_iff_exists, List.find?_isSome]
      simpa using hall
    rw [if_neg hall]
    simp only [lookupTag, if_neg hr, ht]

/-- Steps 1 to 5 of the check order (R121). -/
theorem measurementCheck_eq (kind : MeasKind) (r : RingId) (e : MeasEntry) (d : State) :
    measurementCheck kind r e d = firstRefusal
      ((r != 0, .badKind) :: (e.tag != 0xFFFF, .badField) :: (fieldTests kind e ++
        [(decide (e.address.toNat % 32 = 0) && decide (1 ≤ e.capacity.toNat), .badBuffer),
         ((d.tagMap r).all fun t => t.tag != e.tag, .dupTag)])) := by
  have htag : e.tag = Config.noTag ↔ (e.tag != 0xFFFF) = false := by
    rw [bne_eq_false_iff_eq]
    rfl
  unfold measurementCheck
  by_cases hr : r = 0
  · rw [if_pos hr, hr]
    rfl
  · refine refusal_cons (by simp) ?_
    refine refusal_cons htag ?_
    have hor (x y : Option Status) : (match x with | some st => some st | none => y) = x.or y := by cases x <;> rfl
    refine Eq.trans (hor _ _) (refusal_append (fieldCheck_eq kind e) ?_)
    exact refusal_cons (by rw [← bufferValid_eq, Bool.not_eq_true']) (lookup_refusal hr _ _)

/-- Steps 6 and 7, the lane's own tests (R50, R121). -/
theorem offerCheck_eq (r : RingId) (x : Lane) :
    offerCheck r x = firstRefusal
      [(x.owner == none || x.owner == some r, .notOwner), (decide (x.queue.length < 8), .queueFull)] := by
  unfold offerCheck
  refine refusal_cons (by simp [Option.isSome_iff_ne_none]) ?_
  exact refusal_cons (by rw [decide_eq_false_iff_not]; exact Nat.not_lt.symm) rfl

/-- What the check order decides of a measurement entry (R121). -/
def measurementOutcome (e : MeasEntry) (r : RingId) (j : SlotId) (d : State) : Option Status → State
  | some st => answer j st (.measurement {} false 0 0 0 0 0) d
  | none => acceptOffer r j e (Fin.ofNat 16 e.lane.toNat) d

theorem dispatchMeasurement_eq (kind : MeasKind) (e : MeasEntry) (r : RingId) (j : SlotId) (d : State) :
    dispatchMeasurement kind e r j d = measurementOutcome e r j d (firstRefusal (checkOrder kind r e d)) := by
  have hsplit : firstRefusal (checkOrder kind r e d) =
      (measurementCheck kind r e d).or (offerCheck r (d.lane (Fin.ofNat 16 e.lane.toNat))) := by
    rw [measurementCheck_eq, offerCheck_eq, ← firstRefusal_append]
    simp [checkOrder]
  rw [hsplit]
  unfold dispatchMeasurement
  cases hcheck : measurementCheck kind r e d with
  | some st => rfl
  | none =>
    have hlane : e.lane.toNat ≤ 15 := by
      rw [measurementCheck_eq] at hcheck
      have := firstRefusal_eq_none_iff.1 hcheck (decide (e.lane.toNat ≤ 15), .badLane) (by simp [fieldTests])
      simpa using this
    rw [laneOf_eq, if_pos hlane]
    cases hoffer : offerCheck r (d.lane (Fin.ofNat 16 e.lane.toNat)) with
    | some st => simp only [hoffer]; rfl
    | none => simp only [hoffer]; rfl

/-! ### The offer -/

/-- The slot of an accepted entry once the lane has acted: ACTIVE when it is alone on a free lane and no SPAN (R52). -/
theorem laneAct_slot_state {u : State} {l : LaneId} {j : SlotId} {job : Job} (hqueue : (u.lane l).queue = [j])
    (hjob : (u.slot j).job = some job) (hstate : (u.slot j).state = .pending) :
    ((laneAct l u).slot j).state =
      if job.kind ≠ .span ∧ u.ctl = .running ∧ (u.lane l).active = none ∧ (u.lane l).lentTo = none ∧
          (u.lane l).hold = false then .active
      else .pending := by
  by_cases hquiet : u.ctl = .running ∧ (u.lane l).active = none ∧ (u.lane l).lentTo = none ∧ (u.lane l).hold = false
  · obtain ⟨hrun, hactive, hlent, hhold⟩ := hquiet
    rw [laneAct_of_head hrun hactive hlent hhold hqueue, jobOf_of_job hjob]
    by_cases hspan : job.kind = .span
    · rw [if_pos ((isSpan_iff job).2 hspan), if_neg (show ¬ (job.kind ≠ .span ∧ _) from fun h => h.1 hspan)]
      split
      · exact hstate
      · exact hstate
    · rw [if_neg ((isSpan_iff job).not.2 hspan), if_pos ⟨hspan, hrun, hactive, hlent, hhold⟩, activateHead_eq hqueue hjob]
      unfold State.activated
      rw [State.slot_modSlot_self]
  · rw [laneAct_eq_self hquiet, if_neg (fun h => hquiet h.2), hstate]

/-- Settles O28: the check is the order of tests; an accepted entry joins its queue, and a first one acts. -/
theorem measurementEntriesAreCheckedAndOffered : Obligations.MeasurementEntriesAreCheckedAndOffered := by
  unfold Obligations.MeasurementEntriesAreCheckedAndOffered
  intro kind e f s h d l accepted offered
  have hexec : exec (measurementCommand kind e) s =
      .next (settle (measurementOutcome e f.ring f.slot d (firstRefusal (checkOrder kind f.ring e d)))) := by
    rw [exec_measurement, fetched_of_delivers h, dispatchMeasurement_eq]
  rw [hexec]
  cases firstRefusal (checkOrder kind f.ring e d) with
  | some st => rfl
  | none =>
    have hoffer : acceptOffer f.ring f.slot e l d = offered := by
      show acceptOffer f.ring f.slot e l d = if (s.lane l).queue = [] then _ else _
      unfold acceptOffer
      by_cases hqueue : (s.lane l).queue = []
      · rw [if_pos hqueue, if_pos (by rw [State.delivered_lane, hqueue]; rfl)]
        rfl
      · rw [if_neg hqueue, if_neg (by rwa [State.delivered_lane, List.isEmpty_iff])]
        rfl
    refine ⟨congrArg (fun u => Host.Outcome.next (settle u)) hoffer, ?_⟩
    have hslot : accepted.slot f.slot =
        { d.slot f.slot with
          state := .pending
          stagingLane := some l
          current := some { base := e.address, capacity := e.capacity }
          reserved := 0
          landed := 0
          queued := []
          startTimer :=
            if e.startLimit = 0 then none
            else some (s.timebase + BitVec.ofNat 48 (e.startLimit.toNat * 100000)) } := by
      show ((d.modSlot f.slot _).setTagMap f.ring _).slot f.slot = _
      rw [State.setTagMap_slot, State.slot_modSlot_self]
    have hstate : (accepted.slot f.slot).state = .pending := by rw [hslot]
    have hjob : (accepted.slot f.slot).job = some { kind := kind, fields := e } := by
      rw [hslot]
      exact congrArg Slot.job (State.delivered_slot _)
    show (State.slot (if (s.lane l).queue = [] then _ else _) f.slot).state = _
    by_cases hqueue : (s.lane l).queue = []
    · have hlane (g : Lane → Lane) : (accepted.modLane l g).lane l = g (s.lane l) := State.lane_modLane_self ..
      rw [if_pos hqueue, laneAct_slot_state (job := { kind := kind, fields := e }) (by rw [hlane])
        (by exact hjob) (by exact hstate)]
      simp only [hlane, hqueue, true_and, show (accepted.modLane l _).ctl = CtlState.running from h.1]
    · rw [if_neg hqueue, if_neg (fun hfree => hqueue hfree.2.1)]
      exact hstate

end Sys2Proof.Machine
end

section
/-! SUPPORT. The register window and the stop: CTRL writes that send messages (O50), the stop's first event and its end
(O51), and the words of the window (O52). -/

namespace Sys2Proof.Machine

-- One proof at a time: every thread reserves memory of its own, and the check bounds the whole.
set_option Elab.async false

/-! ### The stop -/

theorem beginStop_eq (s : State) :
    beginStop s = if s.accesses = [] then s.stopBegun.stopEnded else s.stopBegun := by
  have hbegun : beginStop s = endStopIfDone s.stopBegun := rfl
  rw [hbegun, endStopIfDone_eq]
  by_cases h : s.accesses = []
  · rw [if_pos h, if_pos ⟨rfl, h⟩]
  · rw [if_neg h, if_neg (fun hdone => h hdone.2)]

theorem writeCtrl_stop {s : State} (h : s.ctl = .running ∨ s.ctl = .fatal) (ie : Bool) :
    writeCtrl false ie s = beginStop { s with interruptEnable := ie } := by
  rcases h with h | h <;> simp only [writeCtrl, h] <;> rfl

/-- Settles O51: the write or the reset that begins a stop, and the end that follows the last access. -/
theorem stopDropsAllWork : Obligations.StopDropsAllWork := by
  unfold Obligations.StopDropsAllWork
  refine ⟨fun c ie s hc hctl => ?_, fun s => ⟨fun hctl => ?_, fun hctl => ?_, fun hstop hlast => ?_, fun h => ?_⟩⟩
  · rw [exec_of_ctrlWrite hc, writeCtrl_stop hctl, beginStop_eq]
    rfl
  · show execPcieReset s = _
    rw [execPcieReset, if_pos hctl, beginStop_eq]
  · show execPcieReset s = _
    rw [execPcieReset, if_neg (by rcases hctl with h | h <;> simp [h])]
  · show execStopEnd s = _
    rw [execStopEnd, if_pos ⟨hstop, hlast.le⟩, endStop_eq_stopEnded rfl]
    rfl
  · show execStopEnd s = _
    rw [execStopEnd, if_neg]
    rintro ⟨hstop, hcount⟩
    rcases h with h | h
    · exact h hstop
    · exact absurd hcount (Nat.not_le.2 h)

/-! ### The interrupt enable -/

/-- One poster passes its pending vector and clears the flag (R144). -/
def sendPendingOf (s : State) (n : RingId) : State :=
  if (s.poster n).pendingMessage then
    passVector (s.poster n).vector (s.modPoster n fun p => { p with pendingMessage := false })
  else s

/-- The message list once ring `n` has passed its pending vector (R144, R145). -/
def passedBy (s : State) (ms : List Vec) (n : RingId) : List Vec :=
  if (s.poster n).pendingMessage = true ∧ (s.poster n).vector ∉ ms then ms ++ [(s.poster n).vector] else ms

theorem sendPendingOf_eq (s : State) (n : RingId) :
    sendPendingOf s n =
      { s.modPoster n (fun p => { p with pendingMessage := false }) with messages := passedBy s s.messages n } := by
  unfold sendPendingOf passedBy
  by_cases h : (s.poster n).pendingMessage = true
  · rw [if_pos h, passVector_eq]
    by_cases hmem : (s.poster n).vector ∈ s.messages <;> simp [h, hmem]
  · rw [if_neg h, if_neg (fun hp => h hp.1), modPoster_eq_self (by simp only [Bool.not_eq_true] at h; rw [← h])]

/-- The posters pass their vectors one after the other (R144). -/
theorem foldl_sendPendingOf (ns : List RingId) (hns : ns.Nodup) : ∀ s : State,
    ns.foldl sendPendingOf s =
      { s with
        posters := Vector.ofFn fun n : Fin 8 =>
          if n ∈ ns then { s.poster n with pendingMessage := false } else s.poster n
        messages := ns.foldl (passedBy s) s.messages } := by
  induction ns with
  | nil =>
    intro s
    have hposters : (Vector.ofFn fun n : Fin 8 => s.poster n) = s.posters := by
      ext n hn
      simp [State.poster]
    simp [hposters]
  | cons n ns ih =>
    intro s
    obtain ⟨hn, hns⟩ := List.nodup_cons.1 hns
    rw [List.foldl_cons, ih hns, sendPendingOf_eq, List.foldl_cons]
    generalize ht : ({ s.modPoster n (fun p => { p with pendingMessage := false }) with
      messages := passedBy s s.messages n } : State) = t
    have hposter (m : RingId) :
        t.poster m = if m = n then { s.poster n with pendingMessage := false } else s.poster m := by
      rw [← ht]
      exact State.poster_modPoster s n m fun p => { p with pendingMessage := false }
    have hposters : (Vector.ofFn fun m : Fin 8 => if m ∈ ns then { t.poster m with pendingMessage := false } else t.poster m) =
        Vector.ofFn fun m : Fin 8 => if m ∈ n :: ns then { s.poster m with pendingMessage := false } else s.poster m := by
      congr 1
      funext m
      rw [hposter]
      by_cases hm : m = n
      · subst hm
        simp [hn]
      · simp [hm]
    have hmessages (ms : List Vec) : ns.foldl (passedBy t) ms = ns.foldl (passedBy s) ms := by
      refine List.foldl_ext _ _ _ fun ms m hm => ?_
      have hne : m ≠ n := by
        rintro rfl
        exact hn hm
      rw [passedBy, passedBy, hposter, if_neg hne]
    rw [hposters, hmessages, ← ht]
    rfl

theorem sendPendingMessages_eq (s : State) :
    sendPendingMessages s =
      { s with
        posters := Vector.ofFn fun n : Fin 8 => { s.poster n with pendingMessage := false }
        messages := (List.finRange 8).foldl (passedBy s) s.messages } := by
  have h := foldl_sendPendingOf (List.finRange 8) (List.nodup_finRange 8) s
  simp only [List.mem_finRange, if_true] at h
  exact h

theorem with_ctl {s : State} {ctl : CtlState} (h : s.ctl = ctl) : { s with ctl := ctl } = s := by rw [← h]

/-- Settles O50: by the controller state, and in RUNNING by whether the enable rises. -/
theorem interruptEnableChanges : Obligations.InterruptEnableChanges := by
  unfold Obligations.InterruptEnableChanges
  intro c enable ie s hc changed
  rw [exec_of_ctrlWrite hc]
  refine ⟨fun hstop => ?_, fun hoff hen => ?_, fun hfatal hen => ?_, fun hrun hen hno => ?_, fun hrun hen hie hclear => ?_⟩
  · simp only [writeCtrl, hstop]
  · show Host.Outcome.next (writeCtrl enable ie s) = .next { s with interruptEnable := ie }
    rw [hen, ← with_ctl hoff]
    rfl
  · show Host.Outcome.next (writeCtrl enable ie s) = .next { s with interruptEnable := ie }
    rw [hen, ← with_ctl hfatal]
    rfl
  · have hsend : writeInterruptEnable ie s = changed := if_neg (by rcases hno with h | h <;> simp [h])
    simp only [writeCtrl, hrun, hen, if_true, hsend]
  · have hsend : writeInterruptEnable ie s = sendPendingMessages changed := by
      have hrunning : changed.running = true := running_eq_true_iff.2 hrun
      exact if_pos (by rw [hclear, hie]; exact congrArg (fun b => b && true && !false) hrunning)
    simp only [writeCtrl, hrun, hen, if_true, hsend, sendPendingMessages_eq]
    rfl

/-! ### The words of the window -/

theorem accessTaken_iff (offset : BitVec 12) (w : AccessWidth) :
    accessTaken offset w = true ↔ w = .word ∧ offset.toNat % 4 = 0 := by
  simp [accessTaken]

/-- A register with an index stands at its array's base, and the base is a multiple of 32 (section 11.4). -/
theorem registerIndex_of_mem {base o : Nat} (hbase : base % 32 = 0) (h : base ≤ o ∧ o < base + 32) :
    registerIndex base o = some (Fin.ofNat 8 (o / 4)) := by
  rw [registerIndex, if_pos h]
  refine congrArg some (Fin.ext ?_)
  show (o - base) / 4 % 8 = o / 4 % 8
  omega

theorem registerIndex_of_not_mem {base o : Nat} (h : ¬ (base ≤ o ∧ o < base + 32)) : registerIndex base o = none := by
  rw [registerIndex, if_neg h]

theorem addr_low (x : Addr) : x.extractLsb' 0 32 = x.setWidth 32 := (BitVec.setWidth_eq_extractLsb' (by decide)).symm

theorem addr_high (x : Addr) : x.extractLsb' 32 32 = (x >>> 32).setWidth 32 := by
  apply BitVec.eq_of_toNat_eq
  simp

theorem sizes_word (job rpt : BitVec 13) :
    job.setWidth 32 ||| (rpt.setWidth 32 <<< 16) = 0#3 ++ rpt ++ 0#3 ++ job := by
  refine BitVec.eq_of_getLsbD_eq fun i hi => ?_
  simp only [BitVec.getLsbD_or, BitVec.getLsbD_setWidth, BitVec.getLsbD_shiftLeft, BitVec.getLsbD_append,
    BitVec.getLsbD_zero, hi, decide_true, Bool.true_and]
  by_cases hjob : i < 13
  · have hlow : i < 16 := by omega
    simp [hjob, hlow]
  · have hhigh : job.getLsbD i = false := BitVec.getLsbD_of_ge job i (by omega)
    by_cases hgap : i < 16
    · have hzero : i - 13 < 3 := by omega
      simp [hjob, hhigh, hgap, hzero]
    · have hgap' : ¬ i - 13 < 3 := by omega
      have hsub : i - 13 - 3 = i - 16 := by omega
      have hwidth : i - 16 < 32 := by omega
      by_cases hrpt : i - 16 < 13
      · simp [hjob, hhigh, hgap, hgap', hsub, hwidth, hrpt]
      · have htop : rpt.getLsbD (i - 16) = false := BitVec.getLsbD_of_ge rpt _ (by omega)
        simp [hjob, hhigh, hgap, hgap', hsub, hrpt, htop]

theorem ctrlWord_eq (s : State) :
    ctrlWord s =
      0#30 ++ BitVec.ofBool s.interruptEnable ++ BitVec.ofBool (decide (s.ctl = .running ∨ s.ctl = .fatal)) := by
  have hreads : enableReads s = decide (s.ctl = .running ∨ s.ctl = .fatal) := by
    simp [enableReads, Bool.decide_or, beq_eq_decide]
  rw [ctrlWord, hreads]
  cases s.interruptEnable <;> cases decide (s.ctl = .running ∨ s.ctl = .fatal) <;> rfl

theorem statWord_eq (s : State) :
    statWord s =
      0#26 ++ (match s.fatalCause with | .none => 0#2 | .finalWrite => 1#2 | .eventWrite => 2#2) ++ 0#1 ++
        BitVec.ofBool s.configError ++
        (match s.ctl with | .off => 0#2 | .running => 1#2 | .stopping => 2#2 | .fatal => 3#2) := by
  unfold statWord
  cases s.ctl <;> cases s.fatalCause <;> cases s.configError <;> rfl

/-- A control ring register takes a word in OFF only (R175). -/
theorem writeRegister_ring {o : Nat} (h : o ∈ [0x010, 0x014, 0x018, 0x01C, 0x020]) (v : BitVec 32) (s : State) :
    writeRegister o v s = writeControlRing o v s := by
  simp only [List.mem_cons, List.not_mem_nil, or_false] at h
  rcases h with rfl | rfl | rfl | rfl | rfl <;> rfl

theorem writeControlRing_eq_self {s : State} (h : s.ctl ≠ .off) (o : Nat) (v : BitVec 32) :
    writeControlRing o v s = s := by
  rw [writeControlRing, if_neg h]

theorem writeControlRing_off {s : State} (h : s.ctl = .off) (v : BitVec 32) :
    writeControlRing 0x010 v s = { s with cringJobBase := (s.cringJobBase >>> 32).setWidth 32 ++ v } ∧
    writeControlRing 0x014 v s = { s with cringJobBase := v ++ s.cringJobBase.setWidth 32 } ∧
    writeControlRing 0x018 v s = { s with cringRptBase := (s.cringRptBase >>> 32).setWidth 32 ++ v } ∧
    writeControlRing 0x01C v s = { s with cringRptBase := v ++ s.cringRptBase.setWidth 32 } ∧
    writeControlRing 0x020 v s = { s with cringJobSize := v.setWidth 13, cringRptSize := (v >>> 16).setWidth 13 } := by
  have hlow (x : BitVec 32) : x.extractLsb' 0 13 = x.setWidth 13 :=
    (BitVec.setWidth_eq_extractLsb' (by decide)).symm
  have hhigh (x : BitVec 32) : x.extractLsb' 16 13 = (x >>> 16).setWidth 13 := by
    apply BitVec.eq_of_toNat_eq
    simp
  simp only [← addr_low, ← hlow]
  refine ⟨if_pos h, if_pos h, if_pos h, if_pos h, if_pos h⟩

/-- An index register reads its ring's index in RUNNING and FATAL (R176). -/
theorem indicesRead_iff (s : State) : indicesRead s = true ↔ s.ctl = .running ∨ s.ctl = .fatal := by
  simp [indicesRead]

/-- The offsets of the registers without an index (section 11.4). -/
def plainOffsets : List Nat := [0x000, 0x004, 0x010, 0x014, 0x018, 0x01C, 0x020, 0x030, 0x034]

theorem readWord_of_not_plain {o : Nat} (h : o ∉ plainOffsets) (s : State) :
    readWord o s =
      match registerIndex 0x100 o with
      | some r => if indicesRead s then BitVec.ofNat 32 (s.jobRing r).tail else 0
      | none =>
        match registerIndex 0x140 o with
        | some n => if indicesRead s then BitVec.ofNat 32 (s.poster n).head else 0
        | none => 0 := by
  simp only [plainOffsets, List.mem_cons, List.not_mem_nil, or_false, not_or] at h
  obtain ⟨h00, h04, h10, h14, h18, h1C, h20, h30, h34⟩ := h
  simp only [readWord, h00, h04, h10, h14, h18, h1C, h20, h30, h34, if_false] <;> rfl

theorem not_plain_of_le {o : Nat} (h : 0x100 ≤ o) : o ∉ plainOffsets := by
  simp only [plainOffsets, List.mem_cons, List.not_mem_nil, or_false]
  omega

/-- Settles O52: an access is taken or not, and a taken one is routed by its offset. -/
theorem registerWindowRoutesEachWord : Obligations.RegisterWindowRoutesEachWord := by
  unfold Obligations.RegisterWindowRoutesEachWord
  intro offset w v s takes reads o indexed n
  have hwrite : ∀ {t : State}, w = .word → o % 4 = 0 → writeRegister o v s = t → takes t := fun hw ho ht => by
    show execRegisterWrite offset w v s = _
    rw [execRegisterWrite, if_pos ((accessTaken_iff _ _).2 ⟨hw, ho⟩), ht]
  have hread : ∀ {x : BitVec 32}, w = .word → o % 4 = 0 → readWord o s = x → reads x := fun hw ho hx => by
    show readWindow offset w s = _
    rw [readWindow, if_pos ((accessTaken_iff _ _).2 ⟨hw, ho⟩), hx]
  refine ⟨fun hnot => ⟨?_, ?_⟩, fun hw ho => ⟨fun hmem => ⟨?_, ?_⟩, fun hmem => ⟨?_, ?_⟩, fun hno h1 h2 => ?_,
    fun hno h1 h2 => ?_, fun hctl hmem => ?_, fun hoff => ?_,
    fun h => ?_, fun h => ?_, fun h => ?_, fun h => ?_, fun h => ?_, fun h => ?_, fun h => ?_⟩⟩
  · show execRegisterWrite offset w v s = _
    rw [execRegisterWrite, if_neg]
    rw [accessTaken_iff]
    tauto
  · show readWindow offset w s = _
    rw [readWindow, if_neg]
    · rfl
    · rw [accessTaken_iff]
      tauto
  · show execRegisterWrite offset w v s = .next (writeJobTail n v s)
    refine hwrite hw ho ?_
    have hctrl : o ≠ 0 := by have := hmem.1; omega
    simp only [writeRegister, hctrl, if_false, registerIndex_of_mem rfl hmem]
    rfl
  · refine hread hw ho ?_
    simp only [readWord_of_not_plain (not_plain_of_le hmem.1), registerIndex_of_mem rfl hmem, indicesRead_iff]
    rfl
  · show execRegisterWrite offset w v s = .next (writeRptHead n v s)
    refine hwrite hw ho ?_
    have hctrl : o ≠ 0 := by have := hmem.1; omega
    have hnone : registerIndex 0x100 o = none := registerIndex_of_not_mem (by have := hmem.1; omega)
    simp only [writeRegister, hctrl, if_false, hnone, registerIndex_of_mem rfl hmem]
    rfl
  · refine hread hw ho ?_
    have hnone : registerIndex 0x100 o = none := registerIndex_of_not_mem (by have := hmem.1; omega)
    simp only [readWord_of_not_plain (not_plain_of_le (le_trans (by decide) hmem.1)), hnone,
      registerIndex_of_mem rfl hmem, indicesRead_iff]
    rfl
  · refine hwrite hw ho (writeRegister_eq_self v s ?_ (registerIndex_of_not_mem h1) (registerIndex_of_not_mem h2) ?_)
    · exact fun h0 => hno (by simp [h0])
    · exact fun hring => hno (List.mem_cons_of_mem _ hring)
  · refine hread hw ho ?_
    simp only [readWord_of_not_plain hno, registerIndex_of_not_mem h1, registerIndex_of_not_mem h2]
  · exact hwrite hw ho (by rw [writeRegister_ring hmem, writeControlRing_eq_self hctl])
  · obtain ⟨h10, h14, h18, h1C, h20⟩ := writeControlRing_off hoff v
    have hring {k : Nat} {t : State} (hk : k ∈ [0x010, 0x014, 0x018, 0x01C, 0x020]) (ht : writeControlRing k v s = t)
        (h : o = k) : takes t := hwrite hw ho (by rw [h, writeRegister_ring hk, ht])
    exact ⟨hring (by decide) h10, hring (by decide) h14, hring (by decide) h18, hring (by decide) h1C,
      hring (by decide) h20⟩
  · exact hread hw ho (by rw [h]; exact addr_low _)
  · exact hread hw ho (by rw [h]; exact addr_high _)
  · exact hread hw ho (by rw [h]; exact addr_low _)
  · exact hread hw ho (by rw [h]; exact addr_high _)
  · exact hread hw ho (by rw [h]; exact sizes_word _ _)
  · exact hread hw ho (by rw [h]; exact ctrlWord_eq s)
  · exact hread hw ho (by rw [h]; exact statWord_eq s)

end Sys2Proof.Machine
end

section
/-! SUPPORT. The loan messages and what taking each does (O46, O47), and drain marks (O41). -/

namespace Sys2Proof.Machine

-- One proof at a time: every thread reserves memory of its own, and the check bounds the whole.
set_option Elab.async false

/-! ### The oldest message on its way -/

section
variable {m : LoanMsg} {before behind : List LoanMsg} {s : State}

/-- The oldest message from its lane to its lane is the one taken, and leaves the others in their order (R54). -/
theorem withLoan_oldest (h : s.OldestLoan m before behind) (act : Loan → State → State) :
    withLoan m.kind m.src m.dst act s = .next (act m.loan { s with loanMsgs := before ++ behind }) := by
  obtain ⟨hrun, hmsgs, hbefore⟩ := h
  have hfind : oldestLoan m.src m.dst s = some m := by
    rw [oldestLoan, hmsgs, List.find?_append, List.find?_eq_none.2 fun q hq => by simpa using hbefore q hq]
    simp
  have hmem : m ∉ before := fun hm => hbefore m hm ⟨rfl, rfl⟩
  have herase : s.loanMsgs.erase m = before ++ behind := by
    rw [hmsgs, List.erase_append_right _ hmem, List.erase_cons_head]
  simp only [withLoan, running_eq_true_iff.2 hrun, if_true, takeLoan, hfind, herase]

/-- A message of another kind, or none, is not taken (R54). -/
theorem withLoan_not_oldest {k : LoanMsgKind} {src dst : LaneId} (act : Loan → State → State)
    (h : s.ctl ≠ .running ∨ (oldestLoan src dst s).map LoanMsg.kind ≠ some k) : withLoan k src dst act s = .next s := by
  unfold withLoan
  split
  · next hrun =>
    have hkind := h.resolve_left fun hne => hne (running_eq_true_iff.1 hrun)
    unfold takeLoan
    cases hfind : oldestLoan src dst s with
    | none => rfl
    | some q =>
      have hne : ¬ q.kind = k := by
        rintro rfl
        exact hkind (by rw [hfind]; rfl)
      simp only [if_neg hne]
  · rfl

/-- A lane's grant answers a request under its loan (R56, R57). -/
theorem grantLoan_eq (l : LaneId) (loan : Loan) (s : State) :
    grantLoan l loan s =
      { s.modLane l (fun y => { y with lentTo := some loan }) with
        loanMsgs := s.loanMsgs ++ [{ src := l, dst := loan.primary, kind := .grant, loan := loan }] } := rfl

theorem names_eq (a b : Loan) :
    a.names b = decide (b.primary = a.primary ∧ b.slot = a.slot ∧ b.number = a.number) := by
  rw [Bool.eq_iff_iff, decide_eq_true_iff]
  simp only [Loan.names, Bool.and_eq_true, beq_iff_eq, and_assoc]
  exact and_congr eq_comm (and_congr eq_comm eq_comm)

/-- The context of a SPAN at its activation: ARMED, or HELD with the partner-held mark (R34, R62). -/
theorem activationContext_span {job : Job} (h : job.kind = .span) (k : Nat) (now : Stamp) (mark : Bool) :
    activationContext job k now mark =
      { phase := if mark then .held else .armed, acceptFrom := now, partnerHeld := mark } := by
  have hstart : startsAtActivation job = false := by simp [startsAtActivation, h]
  unfold activationContext beginContext
  rw [hstart]
  cases mark <;> rfl

end

/-- Settles O46: the oldest message is taken, and then by its kind and the place or the head it meets. -/
theorem loanRequestsAndGrants : Obligations.LoanRequestsAndGrants := by
  unfold Obligations.LoanRequestsAndGrants
  intro m before behind s h d x sends idle takes
  have hidle : grantConditions d m.dst = true ↔ idle := by
    rw [grantConditions_iff]
    exact ⟨fun hc => hc.2, fun hi => ⟨h.1, hi⟩⟩
  refine ⟨fun hkind => ?_, fun hkind => ?_⟩
  · have hexec : exec (loanCommand m) s = .next (takeLoanRequest m.dst m.loan d) := by
      rw [← withLoan_oldest h (takeLoanRequest m.dst), hkind, loanCommand, hkind]
      rfl
    have htakes {u : State} (hu : takeLoanRequest m.dst m.loan d = u) : takes u := hexec.trans (by rw [hu])
    have hplace {p : Option Loan} (hp : x.place = p) : (d.lane m.dst).place = p := hp
    refine ⟨fun hp hi => htakes ?_, fun hp hi => htakes ?_, fun other hp => ⟨fun hsame => htakes ?_, fun hne => htakes ?_⟩⟩
    · rw [takeLoanRequest, hplace hp]
      simp only [hidle.2 hi, if_true]
      rfl
    · rw [takeLoanRequest, hplace hp]
      exact if_neg (hidle.not.2 hi)
    · rw [takeLoanRequest, hplace hp]
      simp only [hsame, if_true]
    · rw [takeLoanRequest, hplace hp]
      simp only [hne, if_false]
      rfl
  · have hexec : exec (loanCommand m) s = .next (takeGrant m.dst m.src m.loan d) := by
      rw [← withLoan_oldest h (takeGrant m.dst m.src), hkind, loanCommand, hkind]
      rfl
    refine ⟨fun rest job hasks hqueue hjob hspan => ?_, fun hno => ?_⟩
    · have hasksFor : asksFor d m.dst m.loan = true := by
        rw [asksFor_iff]
        refine ⟨?_, (isSpan_jobOf_iff d _).2 ⟨job, hjob, hspan⟩, hasks.1, hasks.2⟩
        show x.queue.head? = _
        rw [hqueue]
        rfl
      show exec _ _ = _
      rw [hexec, takeGrant, if_pos hasksFor, activateHead_eq (by exact hqueue) (by exact hjob),
        activationContext_span hspan, (isSpan_iff job).2 hspan, Bool.and_true]
      rfl
    · have hasksFor : ¬ asksFor d m.dst m.loan = true := by
        rw [asksFor_iff, isSpan_jobOf_iff]
        rintro ⟨hhead, ⟨job, hjob, hspan⟩, hphase, hnumber⟩
        rcases hno with hno | hno | hno
        · exact hno ⟨hphase, hnumber⟩
        · exact hno hhead
        · exact hno job hjob hspan
      show exec _ _ = _
      rw [hexec, takeGrant, if_neg hasksFor]
      rfl

/-- Settles O47: the oldest message is taken, by its kind and whether it names what stands there. -/
theorem loanDefersWithdrawsReturnsAndNotices : Obligations.LoanDefersWithdrawsReturnsAndNotices := by
  unfold Obligations.LoanDefersWithdrawsReturnsAndNotices
  refine ⟨fun m before behind s h => ?_, fun m s hno => ?_⟩
  · intro d x takes named
    have hnames (y : Option Loan) : y.any m.loan.names = y.any named := by
      rw [show m.loan.names = named from funext (names_eq m.loan)]
    refine ⟨fun hkind => ?_, fun hkind => ?_, fun hkind => ?_, fun hkind => ?_⟩
    · have hexec : exec (loanCommand m) s = .next (takeDefer m.dst m.loan d) := by
        rw [← withLoan_oldest h (takeDefer m.dst), hkind, loanCommand, hkind]
        rfl
      have hasks : asksFor d m.dst m.loan = true ↔
          x.queue.head? = some m.loan.slot ∧ (s.slot m.loan.slot).job.map Job.kind = some .span ∧
            x.loanPhase = .asked ∧ x.loanNumber = m.loan.number := by
        rw [asksFor_iff, isSpan_jobOf_iff, ← Option.map_eq_some_iff]
        rfl
      show exec _ _ = _
      rw [hexec, takeDefer]
      simp only [hasks] <;> rfl
    · have hexec : exec (loanCommand m) s = .next (takeWithdraw m.dst m.loan d) := by
        rw [← withLoan_oldest h (takeWithdraw m.dst), hkind, loanCommand, hkind]
        rfl
      show exec _ _ = _
      rw [hexec, takeWithdraw, hnames, sendPlaceOpen_eq]
      rfl
    · have hexec : exec (loanCommand m) s = .next (takeReturn m.dst m.loan d) := by
        rw [← withLoan_oldest h (takeReturn m.dst), hkind, loanCommand, hkind]
        rfl
      show exec _ _ = _
      rw [hexec, takeReturn, hnames]
      rfl
    · have hexec : exec (loanCommand m) s = .next (takePlaceOpen m.dst m.src d) := by
        rw [← withLoan_oldest h fun _ => takePlaceOpen m.dst m.src, hkind, loanCommand, hkind]
        rfl
      intro asksAgain
      refine ⟨fun hd rest job hqueue hasks => ?_, fun hno => ?_⟩
      · have hcond : (isSpan (jobOf d hd) && partnerOf (jobOf d hd).fields == m.src && x.loanPhase == .deferred &&
            x.active.isNone && x.lentTo.isNone && !x.hold) = true := by
          obtain ⟨hjob, hspan, hpartner, hphase, hactive, hlent, hhold⟩ := hasks
          have hp : partnerOf job.fields = m.src := hpartner
          rw [jobOf_of_job (s := d) hjob, (isSpan_iff job).2 hspan, hp, hphase, hactive, hlent, hhold]
          simp
        show exec _ _ = _
        rw [hexec, takePlaceOpen, show (d.lane m.dst).queue = hd :: rest from hqueue]
        refine congrArg Host.Outcome.next ((if_pos hcond).trans ?_)
        rw [sendLoanRequest, jobOf_of_job (s := d) hasks.1]
        have hpartner : partnerOf job.fields = m.src := hasks.2.2.1
        rw [hpartner]
        rfl
      · show exec _ _ = _
        rw [hexec, takePlaceOpen]
        cases hqueue : x.queue with
        | nil => rw [show (d.lane m.dst).queue = [] from hqueue]
        | cons hd rest =>
          rw [show (d.lane m.dst).queue = hd :: rest from hqueue]
          refine congrArg Host.Outcome.next (if_neg fun hcond => ?_)
          simp only [Bool.and_eq_true, beq_iff_eq, Option.isNone_iff_eq_none, Bool.not_eq_true',
            isSpan_jobOf_iff] at hcond
          obtain ⟨⟨⟨⟨⟨⟨job, hjob, hspan⟩, hpartner⟩, hphase⟩, hactive⟩, hlent⟩, hhold⟩ := hcond
          rw [jobOf_of_job hjob] at hpartner
          exact hno hd (by rw [hqueue]; rfl) job ⟨hjob, hspan, hpartner, hphase, hactive, hlent, hhold⟩
  · have hfind : oldestLoan m.src m.dst s = s.loanMsgs.find? fun q => decide (q.src = m.src ∧ q.dst = m.dst) := by
      unfold oldestLoan
      congr 1
      funext q
      rw [Bool.eq_iff_iff, decide_eq_true_iff]
      simp
    have hnone (act : Loan → State → State) : withLoan m.kind m.src m.dst act s = .next s :=
      withLoan_not_oldest act (by rwa [hfind])
    cases hkind : m.kind <;> rw [hkind] at hnone <;> rw [loanCommand, hkind] <;> exact hnone _

/-! ### Drain marks -/

theorem DrainMark.names_any (m : DrainMark) (gone : List ResultRecord) :
    gone.any m.names = gone.any fun r => decide (r.slot = m.recordSlot ∧ r.index = m.recordIndex) := by
  congr 1
  funext r
  rw [Bool.eq_iff_iff, decide_eq_true_iff]
  simp only [DrainMark.names, Bool.and_eq_true, beq_iff_eq]
  exact and_congr eq_comm eq_comm

/-- The marks that name a record that has left are cleared, and their holds lowered in order (R93). -/
theorem clearMarks_eq (l : LaneId) (gone : List ResultRecord) (s : State) :
    clearMarks l gone s =
      ((s.lane l).drainMarks.filter fun m => gone.any m.names).foldl (fun s m => lowerHold m.holder s)
        (s.modLane l fun x => { x with drainMarks := x.drainMarks.filter fun m => !gone.any m.names }) := by
  unfold clearMarks
  congr 1

/-- Settles O41: the states between the marks are the partial folds of the clearing. -/
theorem drainMarksCompleteTheirHold : Obligations.DrainMarksCompleteTheirHold := by
  unfold Obligations.DrainMarksCompleteTheirHold
  intro l gone s hit kept lowered
  have hnames : (fun m : DrainMark => gone.any m.names) = hit := funext fun m => m.names_any gone
  refine ⟨List.scanl (fun s (m : DrainMark) => lowerHold m.holder s) kept ((s.lane l).drainMarks.filter hit),
    List.head?_scanl, ?_, List.length_scanl, fun i m u v hm hu hv => ?_⟩
  · rw [List.getLast?_scanl, clearMarks_eq]
    have hkept (m : DrainMark) : (!gone.any m.names) = !hit m := by rw [← hnames]
    simp only [hkept, hnames]
    rfl
  · rw [List.getElem?_succ_scanl, hu, hm] at hv
    obtain rfl : lowerHold m.holder u = v := by simpa using hv
    simp only [lowered]
    cases hwait : (u.slot m.holder).wait with
    | hold count lane ring tag abandoned =>
      refine ⟨fun hmore => ?_, fun hlast => ?_⟩
      · simp only [lowerHold, hwait, if_neg (Nat.not_le.2 hmore)]
      · simp only [lowerHold, hwait, if_pos hlast]
    | none => simp only [lowerHold, hwait]
    | cancel ring tag found => simp only [lowerHold, hwait]
    | close ring remaining ended waited => simp only [lowerHold, hwait]

end Sys2Proof.Machine
end

section
/-! SUPPORT. Record writes: what a landed and a faulted record do to its slot (O40, O42). -/

namespace Sys2Proof.Machine

-- One proof at a time: every thread reserves memory of its own, and the check bounds the whole.
set_option Elab.async false

/-! ### Saturation -/

theorem satAdd_eq {w : Nat} (x : BitVec w) (n : Nat) :
    satAdd x n = if x.toNat + n < 2 ^ w then x + BitVec.ofNat w n else BitVec.allOnes w := rfl

/-! ### A landed record -/

theorem oldestBuffer_eq (x : Slot) : oldestBuffer x = (x.landing ++ x.current.toList).head? := by
  unfold oldestBuffer
  cases x.landing with
  | nil => cases x.current <;> rfl
  | cons b rest => rfl

theorem dropOldest_eq (x : Slot) :
    dropOldest x =
      if x.landing = [] then { x with current := x.queued.head?, queued := x.queued.tail, reserved := 0 }
      else { x with landing := x.landing.tail } := by
  unfold dropOldest
  cases h : x.landing with
  | nil => rfl
  | cons b rest => rfl

/-- The slot once the landed record is counted (R77). -/
def Slot.withLanded (x : Slot) : Slot :=
  { x with written := x.written + 1, landed := x.landed + 1, outstanding := x.outstanding - 1 }

/-- The slot once its oldest buffer is retired (R78). -/
def Slot.withRetired (x : Slot) : Slot :=
  { dropOldest x with landed := 0, buffersRetired := satInc x.buffersRetired }

section
variable {s : State} {j : SlotId}

/-- A record that does not fill its buffer is counted alone (R77). -/
theorem landRecord_of_not_filled
    (h : ∀ b ∈ ((s.slot j).landing ++ (s.slot j).current.toList).head?, (s.slot j).landed + 1 ≠ b.capacity) :
    landRecord j s = s.setSlot j (s.slot j).withLanded := by
  have hslot : (s.setSlot j (s.slot j).withLanded).slot j = (s.slot j).withLanded := State.slot_setSlot_self ..
  show (match oldestBuffer ((s.setSlot j (s.slot j).withLanded).slot j) with
    | none => s.setSlot j (s.slot j).withLanded
    | some b => if ((s.setSlot j (s.slot j).withLanded).slot j).landed = b.capacity then _ else _) = _
  rw [hslot, oldestBuffer_eq]
  cases hb : ((s.slot j).withLanded.landing ++ (s.slot j).withLanded.current.toList).head? with
  | none => rfl
  | some b => exact if_neg (h b hb)

/-- A record that fills its buffer retires it (R78). -/
theorem landRecord_of_filled {b : Buffer} (hb : ((s.slot j).landing ++ (s.slot j).current.toList).head? = some b)
    (h : (s.slot j).landed + 1 = b.capacity) :
    landRecord j s = reportRetirement j b (s.setSlot j (s.slot j).withLanded.withRetired) := by
  have hslot : (s.setSlot j (s.slot j).withLanded).slot j = (s.slot j).withLanded := State.slot_setSlot_self ..
  have hretired : (s.setSlot j (s.slot j).withLanded).modSlot j Slot.withRetired =
      s.setSlot j (s.slot j).withLanded.withRetired := by
    rw [State.modSlot, hslot, State.setSlot_setSlot]
  show (match oldestBuffer ((s.setSlot j (s.slot j).withLanded).slot j) with
    | none => s.setSlot j (s.slot j).withLanded
    | some b =>
      if ((s.setSlot j (s.slot j).withLanded).slot j).landed = b.capacity then
        reportRetirement j b ((s.setSlot j (s.slot j).withLanded).modSlot j Slot.withRetired)
      else s.setSlot j (s.slot j).withLanded) = _
  rw [hslot, oldestBuffer_eq, hretired]
  show (match ((s.slot j).landing ++ (s.slot j).current.toList).head? with | none => _ | some b => _) = _
  rw [hb]
  exact if_pos h

end

/-- The newest waiting PROGRESS takes the retirement, and the reports around it stay (R133). -/
theorem mergeNewest_eq {before behind : List Report} {p : Report} {address : Addr} {records merged : BitVec 32}
    (base : Addr) (capacity : BitVec 16) (hbody : p.body = .progress address records merged)
    (hwaits : p.inFlight = false) (hbehind : ∀ q ∈ behind, q.isWaitingProgress = false) :
    mergeNewest base capacity (before ++ p :: behind) =
      before ++ { p with body := .progress base (satAdd records capacity.toNat) (satInc merged) } :: behind := by
  have hwaiting : p.isWaitingProgress = true := by simp [Report.isWaitingProgress, Report.isFinal, hbody, hwaits]
  induction before with
  | nil =>
    have hnone : behind.any Report.isWaitingProgress = false := by simpa using hbehind
    simp [mergeNewest, hnone, hbody, hwaits]
  | cons r before ih =>
    have hany : (before ++ p :: behind).any Report.isWaitingProgress = true := by simp [hwaiting]
    rw [List.cons_append, mergeNewest, if_pos hany, ih]
    rfl

/-- With 3 PROGRESS reports waiting a retirement is merged, and with fewer a PROGRESS is created (R78, R133). -/
theorem reportRetirement_eq (j : SlotId) (b : Buffer) (s : State) :
    reportRetirement j b s =
      if (s.slot j).reports.countP Report.isWaitingProgress < 3 then
        createReport j (.progress b.base (b.capacity.setWidth 32) 1) s
      else s.modSlot j fun x => { x with reports := mergeNewest b.base b.capacity x.reports } := by
  unfold reportRetirement
  by_cases h : (s.slot j).reports.countP Report.isWaitingProgress < 3
  · exact (if_neg (Nat.not_le.2 h)).trans (if_pos h).symm
  · exact (if_pos (Nat.not_lt.1 h)).trans (if_neg h).symm

/-- The completion of a lane's record write, for a slot that holds records (R77). -/
theorem exec_recordWriteCompletion {l : LaneId} {r : ResultRecord} {s : State} (hrun : s.ctl = .running)
    (haccess : Access.record l ∈ s.accesses) (hwrite : (s.lane l).writeSlot = some r)
    (hstate : (s.slot r.slot).state = .active ∨ (s.slot r.slot).state = .draining) :
    exec (.recordWriteCompletion l) s = .next (settle
      ((clearMarks l [r] (landRecord r.slot ({ s with accesses := s.accesses.erase (.record l) }.modLane l
        fun y => { y with writeSlot := none }))).drained r.slot)) := by
  show execRecordWriteCompletion l s = _
  rw [execRecordWriteCompletion, finishing_of_running _ haccess hrun]
  have hholds : holdsRecords (s.slot r.slot) = true := (holdsRecords_iff _).2 hstate
  unfold takeRecordCompletion
  rw [show ((finishAccess (.record l) s).lane l).writeSlot = some r from hwrite]
  exact congrArg (fun u => Host.Outcome.next (settle u)) (if_pos hholds)

/-- Settles O40: the record lands, the buffer is retired or not, the marks are cleared and the slot drains. -/
theorem aLandedRecordIsCounted : Obligations.ALandedRecordIsCounted := by
  unfold Obligations.ALandedRecordIsCounted
  intro l r s hrun haccess hwrite hstate x taken counted retired dropped leaves waiting
  have hexec : exec (.recordWriteCompletion l) s =
      .next (settle ((clearMarks l [r] (landRecord r.slot taken)).drained r.slot)) :=
    exec_recordWriteCompletion hrun haccess hwrite hstate
  have hleaves {u : State} (hu : landRecord r.slot taken = u) : leaves u := hexec.trans (by rw [hu])
  have hdropped : (taken.slot r.slot).withLanded.withRetired = dropped := by
    unfold Slot.withRetired
    by_cases hnone : x.landing = []
    · rw [dropOldest_eq, satInc_eq, if_pos (show (taken.slot r.slot).withLanded.landing = [] from hnone)]
      exact (if_pos hnone).symm
    · rw [dropOldest_eq, satInc_eq, if_neg (show (taken.slot r.slot).withLanded.landing ≠ [] from hnone)]
      exact (if_neg hnone).symm
  refine ⟨fun hfull => hleaves (landRecord_of_not_filled hfull), fun b hb hfull => ?_⟩
  have hland := landRecord_of_filled (s := taken) (j := r.slot) (b := b) hb hfull
  rw [hdropped, reportRetirement_eq, State.slot_setSlot_self] at hland
  have hreports : dropped.reports = x.reports := by
    show (if x.landing = [] then _ else _ : Slot).reports = _
    split <;> rfl
  rw [hreports] at hland
  refine ⟨fun hfew => hleaves (hland.trans (if_pos hfew)), fun before behind p address records merged hmany hsplit hbody hwaits hbehind => ?_⟩
  intro sum newest
  refine hleaves (hland.trans ((if_neg (Nat.not_lt.2 hmany)).trans ?_))
  rw [State.modSlot, State.slot_setSlot_self, State.setSlot_setSlot, hreports, hsplit,
    mergeNewest_eq b.base b.capacity hbody hwaits hbehind, satAdd_eq, satInc_eq, BitVec.ofNat_toNat]
  rfl

/-! ### A faulted record -/

/-- The fault of a lane's record write, for a slot that holds records (R82). -/
theorem exec_recordWriteFault {l : LaneId} {r : ResultRecord} {s : State} (hrun : s.ctl = .running)
    (haccess : Access.record l ∈ s.accesses) (hwrite : (s.lane l).writeSlot = some r)
    (hstate : (s.slot r.slot).state = .active ∨ (s.slot r.slot).state = .draining) :
    let gone := r :: (s.lane l).fifo.filter fun q => q.slot == r.slot
    let taken := ({ s with accesses := s.accesses.erase (.record l) }.modLane l fun y =>
      { y with writeSlot := none, fifo := y.fifo.filter fun q => !(q.slot == r.slot) }).modSlot r.slot
        (countDiscarded gone.length)
    let u := clearMarks l gone taken
    exec (.recordWriteFault l) s = .next (settle
      (if (u.slot r.slot).state = .active then endActive l r.slot .writeFault u else finishDraining r.slot u)) := by
  intro gone taken u
  show execRecordWriteFault l s = _
  rw [execRecordWriteFault, finishing_of_running _ haccess hrun]
  have hholds : holdsRecords (s.slot r.slot) = true := (holdsRecords_iff _).2 hstate
  unfold takeRecordFault
  rw [show ((finishAccess (.record l) s).lane l).writeSlot = some r from hwrite]
  exact congrArg (fun u => Host.Outcome.next (settle u)) (if_pos hholds)

/-- Settles O42: the records leave the lane, the marks are cleared, and the job ends by its slot state. -/
theorem aFaultedRecordEndsItsJob : Obligations.AFaultedRecordEndsItsJob := by
  unfold Obligations.AFaultedRecordEndsItsJob
  intro l r s hrun haccess hwrite hstate x gone taken u
  have hof : (fun q : ResultRecord => decide (q.slot = r.slot)) = fun q => q.slot == r.slot := by
    funext q; exact Bool.beq_eq_decide_eq .. |>.symm
  have hother : (fun q : ResultRecord => decide (q.slot ≠ r.slot)) = fun q => !(q.slot == r.slot) := by
    funext q; rw [← congrFun hof q, decide_not]
  have htaken : ({ s with accesses := s.accesses.erase (.record l) }.modLane l fun y =>
      { y with writeSlot := none, fifo := y.fifo.filter fun q => !(q.slot == r.slot) }).modSlot r.slot
        (countDiscarded (r :: (s.lane l).fifo.filter fun q => q.slot == r.slot).length) = taken := by
    rw [← hof, ← hother]
    rfl
  have hexec := exec_recordWriteFault hrun haccess hwrite hstate
  dsimp only at hexec
  rw [htaken, finishDraining_eq, ← hof] at hexec
  exact hexec

end Sys2Proof.Machine
end

section
/-! SUPPORT. Report writes: what a posted and a faulted report do to their ring (O43, O44). -/

namespace Sys2Proof.Machine

-- One proof at a time: every thread reserves memory of its own, and the check bounds the whole.
set_option Elab.async false

/-! ### A posted report -/

theorem countPosted_eq (n : RingId) (u : State) :
    countPosted n u =
      if (u.poster n).unsignalled + 1 = (u.poster n).coalescingCount then
        if u.interruptEnable then
          { u.setPoster n { u.poster n with unsignalled := 0, timer := none } with
            messages :=
              if (u.poster n).vector ∈ u.messages then u.messages else u.messages ++ [(u.poster n).vector] }
        else u.setPoster n { u.poster n with unsignalled := 0, timer := none, pendingMessage := true }
      else if (u.poster n).unsignalled = 0 ∧ (u.poster n).coalescingTime ≠ 0 then
        u.setPoster n
          { u.poster n with
            unsignalled := 1
            timer := some (u.timebase + BitVec.ofNat 48 ((u.poster n).coalescingTime * 10000)) }
      else u.setPoster n { u.poster n with unsignalled := (u.poster n).unsignalled + 1 } := by
  unfold countPosted
  dsimp only
  split
  · rw [requestMessage_eq, State.modPoster, State.poster_setPoster_self, State.setPoster_setPoster]
    rfl
  · by_cases hfirst : (u.poster n).unsignalled = 0
    · rw [hfirst]
      by_cases htime : (u.poster n).coalescingTime ≠ 0
      · rw [if_pos ⟨rfl, htime⟩, if_pos ⟨rfl, htime⟩]
        rfl
      · rw [if_neg fun h => htime h.2, if_neg fun h => htime h.2]
    · rw [if_neg fun h => hfirst (Nat.succ.inj h.1), if_neg fun h => hfirst h.1]

/-- The completion of a report write (R136). -/
theorem exec_reportWriteCompletion {n : RingId} {s : State} (hrun : s.ctl = .running)
    (haccess : Access.report n ∈ s.accesses) :
    exec (.reportWriteCompletion n) s =
      .next (settle (takeReportCompletion n { s with accesses := s.accesses.erase (.report n) })) := by
  show execReportWriteCompletion n s = _
  rw [execReportWriteCompletion, finishing_of_running _ haccess hrun]
  rfl

section
variable {n : RingId} {s : State}

theorem takeReportCompletion_event (h : (s.poster n).inFlight = some .event) :
    takeReportCompletion n s = countPosted n
      { s.modPoster n fun p =>
          { p with inFlight := none, tail := (p.tail + 1) % p.size, sequence := p.sequence + 1 } with
        events := s.events.tail } := by
  unfold takeReportCompletion
  rw [h] <;> rfl

theorem takeReportCompletion_slot {i : SlotId} (h : (s.poster n).inFlight = some (.slot i)) :
    takeReportCompletion n s = countPosted n (dropHead n (s.modPoster n fun p =>
      { p with inFlight := none, tail := (p.tail + 1) % p.size, sequence := p.sequence + 1 })) := by
  unfold takeReportCompletion
  rw [h]

/-- The report at the head of a queue leaves it and its slot, which it frees when it is the FINAL (R136, R146). -/
theorem dropHead_cons {j : SlotId} {q : List SlotId} {r : Report} {others : List Report}
    (hqueue : (s.poster n).queue = j :: q) (hreports : (s.slot j).reports = r :: others) :
    dropHead n s =
      let left := (s.modPoster n fun p => { p with queue := q }).modSlot j fun x => { x with reports := others }
      if r.isFinal then freeSlot j left else left := by
  unfold dropHead
  rw [hqueue]
  dsimp only
  rw [hreports]

/-- A slot without a report leaves only its place in the queue. -/
theorem dropHead_of_no_report {j : SlotId} {q : List SlotId} (hqueue : (s.poster n).queue = j :: q)
    (hreports : (s.slot j).reports = []) : dropHead n s = s.modPoster n fun p => { p with queue := q } := by
  unfold dropHead
  rw [hqueue]
  dsimp only
  rw [hreports]

end

/-- The FINAL of a slot leaves its list, and the slot becomes FREE (R67). -/
theorem freeSlot_of_left (s : State) (j : SlotId) (others : List Report) :
    freeSlot j (s.modSlot j fun x => { x with reports := others }) =
      countFreed (s.slot j).ring (s.modSlot j fun x => { x with state := .free, reports := [] }) := by
  unfold freeSlot
  dsimp only
  rw [State.slot_modSlot_self, State.modSlot, State.modSlot, State.setSlot_setSlot, State.slot_setSlot_self]
  rfl

/-- Settles O43: an event leaves the event list and a report its queue, and both count toward coalescing. -/
theorem aPostedReportAdvancesTheRing : Obligations.APostedReportAdvancesTheRing := by
  unfold Obligations.APostedReportAdvancesTheRing
  intro n s hrun haccess advanced counts
  have hcounts {u : State} (htime : u.timebase = s.timebase)
      (hu : takeReportCompletion n { s with accesses := s.accesses.erase (.report n) } = countPosted n u) :
      counts u := by
    rw [countPosted_eq, htime] at hu
    exact (exec_reportWriteCompletion hrun haccess).trans (by rw [hu])
  refine ⟨fun hevent => hcounts rfl (takeReportCompletion_event hevent),
    fun i j q r others hsource hqueue hreports => ?_⟩
  intro left
  have hdrop : dropHead n advanced = if r.isFinal then freeSlot j left else left :=
    dropHead_cons (q := q) (by rw [State.poster_modPoster_self]; exact hqueue) hreports
  rw [← hdrop]
  exact hcounts (dropHead_sameOutside advanced n).timebase (takeReportCompletion_slot hsource)

/-! ### A discarded queue -/

/-- A slot as the report at the head of its list leaves it (R136, R146). -/
def Slot.dropReport (x : Slot) : Slot :=
  match x.reports with
  | [] => x
  | r :: others => if r.isFinal then { x with state := .free, reports := [] } else { x with reports := others }

/-- As many reports leave as the slot has places, as long as none is a FINAL. -/
theorem dropReport_iterate {k : Nat} : ∀ {x : Slot}, (∀ r ∈ x.reports.take k, r.isFinal = false) →
    Slot.dropReport^[k] x = { x with reports := x.reports.drop k } := by
  induction k with
  | zero => intro x _; rfl
  | succ k ih =>
    intro x h
    rw [Function.iterate_succ_apply]
    cases hreports : x.reports with
    | nil =>
      have hsame : x.dropReport = x := by unfold Slot.dropReport; rw [hreports]
      rw [hsame, ih (by rw [hreports]; simp), hreports]
      simp
    | cons r others =>
      rw [hreports, List.take_succ_cons] at h
      have hr : r.isFinal = false := h r (List.mem_cons_self ..)
      have hdrop : x.dropReport = { x with reports := others } := by
        unfold Slot.dropReport; rw [hreports]; exact if_neg (by simp [hr])
      rw [hdrop, ih fun q hq => h q (List.mem_cons_of_mem _ hq)]
      rfl

/-- A FINAL among the reports that leave frees the slot, and nothing is left of its reports. -/
theorem dropReport_iterate_final {k : Nat} : ∀ {x : Slot}, (∃ r ∈ x.reports.take k, r.isFinal = true) →
    Slot.dropReport^[k] x = { x with state := .free, reports := [] } := by
  induction k with
  | zero => intro x ⟨r, hr, _⟩; simp at hr
  | succ k ih =>
    intro x ⟨q, hq, hfinal⟩
    rw [Function.iterate_succ_apply]
    cases hreports : x.reports with
    | nil => rw [hreports] at hq; simp at hq
    | cons r others =>
      rw [hreports, List.take_succ_cons] at hq
      by_cases hr : r.isFinal = true
      · have hdrop : x.dropReport = { x with state := .free, reports := [] } := by
          unfold Slot.dropReport; rw [hreports]; exact if_pos hr
        rw [hdrop, dropReport_iterate (by simp)]
        simp
      · have hdrop : x.dropReport = { x with reports := others } := by
          unfold Slot.dropReport; rw [hreports]; exact if_neg hr
        rw [hdrop, ih]
        rcases List.mem_cons.1 hq with rfl | hq
        · exact absurd hfinal hr
        · exact ⟨q, hq, hfinal⟩

/-- The slots that wait for a close hold requests of ring 0. -/
def State.ClosersOnRing0 (s : State) : Prop :=
  ∀ (r : RingId) (c : SlotId), (s.jobRing r).closer = some c → (s.slot c).ring = 0

theorem State.ClosersOnRing0.of {s t : State} (h : s.ReportsOnly t)
    (hclosers : ∀ r, (t.jobRing r).closer = (s.jobRing r).closer ∨ (t.jobRing r).closer = none)
    (hs : s.ClosersOnRing0) : t.ClosersOnRing0 := by
  intro r c hc
  rw [h.slot c]
  rcases hclosers r with hsame | hnone
  · exact hs r c (hsame ▸ hc)
  · rw [hnone] at hc
    exact (nomatch hc)

/-- What a freed slot may change besides itself: the close that waits for its ring, its ring, and ring 0. -/
structure State.AnswersCloses (s t : State) : Prop where
  frame : t = { s with slots := t.slots, jobRings := t.jobRings, posters := t.posters }
  poster : ∀ m : RingId, m ≠ 0 → t.poster m = s.poster m
  slot : ∀ j : SlotId, (s.slot j).wait = .none → t.slot j = s.slot j
  closers : t.ClosersOnRing0

theorem completeClose_answersCloses {s : State} {r : RingId} {c : SlotId} {ended waited : Nat}
    (hs : s.ClosersOnRing0) (hclose : (s.jobRing r).closer = some c) (hwait : (s.slot c).wait ≠ .none) :
    s.AnswersCloses (completeClose r c ended waited s) where
  frame := rfl
  poster m hm := by
    have hring : (((s.modJobRing r fun q => { q with state := .closed, closer := none }).modSlot c fun x =>
        { x with state := .posting, endStatus := some .ok, wait := .none }).slot c).ring = 0 := by
      rw [State.slot_modSlot_self]
      exact hs r c hclose
    unfold completeClose pushReport
    dsimp only
    rw [hring, show ∀ u : State, reportRing u 0 = 0 from fun _ => rfl, State.poster_modPoster_ne (h := hm)]
    rfl
  slot j hj := by
    have hne : j ≠ c := fun h => hwait (h ▸ hj)
    unfold completeClose pushReport
    dsimp only
    rw [State.modPoster_slot, State.slot_modSlot_ne (h := hne), State.slot_modSlot_ne (h := hne)]
    rfl
  closers := hs.of (completeClose_reportsOnly r c ended waited) fun q => by
    have hring : (completeClose r c ended waited s).jobRing q =
        (s.modJobRing r fun q => { q with state := .closed, closer := none }).jobRing q := rfl
    rw [hring, State.jobRing_modJobRing]
    split
    · exact .inr rfl
    · exact .inl rfl

theorem countFreed_answersCloses {s : State} {r : RingId} (hs : s.ClosersOnRing0) :
    s.AnswersCloses (countFreed r s) := by
  unfold countFreed
  have hsame : s.AnswersCloses s := ⟨rfl, fun _ _ => rfl, fun _ _ => rfl, hs⟩
  split
  · exact hsame
  next c hclose =>
    split
    next hwait =>
      have hbusy : (s.slot c).wait ≠ .none := by rw [hwait]; exact (nomatch ·)
      split
      · exact completeClose_answersCloses hs hclose hbusy
      · refine ⟨rfl, fun _ _ => rfl, fun j hj => State.slot_modSlot_ne (h := fun h => hbusy (h ▸ hj)) .., ?_⟩
        exact hs.of (modSlot_reportsOnly c fun _ => rfl) fun _ => .inl rfl
    next => exact hsame

/-- What dropping reports of ring `n` leaves of the other blocks, and of the slots that wait for nothing. -/
structure State.DropsReports (n : RingId) (k : SlotId → Nat) (s t : State) : Prop where
  frame : t = { s with slots := t.slots, jobRings := t.jobRings, posters := t.posters }
  poster : ∀ m : RingId, m ≠ 0 → m ≠ n → t.poster m = s.poster m
  slot : ∀ j : SlotId, (s.slot j).wait = .none → t.slot j = Slot.dropReport^[k j] (s.slot j)
  closers : t.ClosersOnRing0

theorem dropReport_wait (x : Slot) : x.dropReport.wait = x.wait := by
  unfold Slot.dropReport
  split
  · rfl
  · split <;> rfl

/-- The place at the head of a queue leaves it, with a change of its slot that keeps the ring and the wait. -/
theorem leavesHead_drops {s : State} {n : RingId} {j : SlotId} {f : Slot → Slot} (q : List SlotId)
    (hs : s.ClosersOnRing0) (hf : ∀ x, f x = { x with state := (f x).state, reports := (f x).reports })
    (hslot : f (s.slot j) = (s.slot j).dropReport) :
    s.DropsReports n (fun i => if i = j then 1 else 0) ((s.modPoster n fun p => { p with queue := q }).modSlot j f) where
  frame := rfl
  poster m _ hm := by rw [State.modSlot_poster, State.poster_modPoster_ne (h := hm)]
  slot i _ := by
    rw [State.slot_modSlot]
    split
    next hij => rw [hij]; exact hslot
    next => rfl
  closers := hs.of ((modPoster_reportsOnly n _).trans (modSlot_reportsOnly j fun x => by rw [hf x])) fun _ => .inl rfl

theorem State.DropsReports.trans_answersCloses {s t u : State} {n : RingId} {j : SlotId}
    (h : s.DropsReports n (fun i => if i = j then 1 else 0) t) (k : t.AnswersCloses u) :
    s.DropsReports n (fun i => if i = j then 1 else 0) u where
  frame := k.frame.trans (congrArg (fun v : State =>
    { v with slots := u.slots, jobRings := u.jobRings, posters := u.posters }) h.frame)
  poster m h0 hm := (k.poster m h0).trans (h.poster m h0 hm)
  slot i hi := by
    have hfirst := h.slot i hi
    refine (k.slot i ?_).trans hfirst
    rw [hfirst]
    split
    · exact (dropReport_wait _).trans hi
    · exact hi
  closers := k.closers

/-- One report leaves the head of the queue of a ring 1 to 7. -/
theorem dropHead_drops {s : State} {n : RingId} {j : SlotId} {q : List SlotId} (hs : s.ClosersOnRing0) (hn : n ≠ 0)
    (hqueue : (s.poster n).queue = j :: q) :
    s.DropsReports n (fun i => if i = j then 1 else 0) (dropHead n s) ∧
      (dropHead n s).poster n = { s.poster n with queue := q } := by
  have hposter (f : Slot → Slot) : ((s.modPoster n fun p => { p with queue := q }).modSlot j f).poster n =
      { s.poster n with queue := q } := by rw [State.modSlot_poster, State.poster_modPoster_self]
  have hleaves {f : Slot → Slot} := leavesHead_drops (n := n) (j := j) (f := f) q hs
  cases hreports : (s.slot j).reports with
  | nil =>
    rw [dropHead_of_no_report hqueue hreports]
    have hsame : (s.slot j).dropReport = s.slot j := by unfold Slot.dropReport; rw [hreports]
    have hid : (s.modPoster n fun p => { p with queue := q }).modSlot j (fun x => x) =
        s.modPoster n fun p => { p with queue := q } := modSlot_eq_self rfl
    rw [← hid]
    exact ⟨hleaves (fun _ => rfl) hsame.symm, hposter _⟩
  | cons r others =>
    rw [dropHead_cons hqueue hreports]
    dsimp only
    split
    next hfinal =>
      have hdrop : (s.slot j).dropReport = { s.slot j with state := .free, reports := [] } := by
        unfold Slot.dropReport; rw [hreports]; exact if_pos hfinal
      have hfirst := hleaves (f := fun x => { x with state := .free, reports := [] }) (fun _ => rfl) hdrop.symm
      have hclose := countFreed_answersCloses (r := (s.slot j).ring) hfirst.closers
      rw [freeSlot_of_left]
      exact ⟨hfirst.trans_answersCloses hclose, (hclose.poster n hn).trans (hposter _)⟩
    next hmore =>
      have hdrop : (s.slot j).dropReport = { s.slot j with reports := others } := by
        unfold Slot.dropReport; rw [hreports]; exact if_neg hmore
      exact ⟨hleaves (fun _ => rfl) hdrop.symm, hposter _⟩

/-- The whole queue of a ring 1 to 7 is dropped: a slot loses a report for each of its places. -/
theorem dropHeads_drops {n : RingId} (hn : n ≠ 0) (q : List SlotId) :
    ∀ {s : State}, s.ClosersOnRing0 → (s.poster n).queue = q →
      s.DropsReports n q.count (dropHeads q.length n s) ∧
        (dropHeads q.length n s).poster n = { s.poster n with queue := [] } := by
  induction q with
  | nil => exact fun {s} hs hqueue => ⟨⟨rfl, fun _ _ _ => rfl, fun _ _ => rfl, hs⟩, by
      show s.poster n = _
      rw [← hqueue]⟩
  | cons j q ih =>
    intro s hs hqueue
    obtain ⟨hdrop, hposter⟩ := dropHead_drops hs hn hqueue
    obtain ⟨hrest, hlast⟩ := ih (s := dropHead n s) hdrop.closers (by rw [hposter])
    refine ⟨⟨?_, fun m h0 hm => (hrest.poster m h0 hm).trans (hdrop.poster m h0 hm), fun i hi => ?_, hrest.closers⟩, ?_⟩
    · exact hrest.frame.trans (congrArg (fun u : State =>
        { u with
          slots := (dropHeads q.length n (dropHead n s)).slots
          jobRings := (dropHeads q.length n (dropHead n s)).jobRings
          posters := (dropHeads q.length n (dropHead n s)).posters }) hdrop.frame)
    · have hfirst := hdrop.slot i hi
      have hwait : ((dropHead n s).slot i).wait = .none := by
        rw [hfirst]; split
        · exact (dropReport_wait _).trans hi
        · exact hi
      refine (hrest.slot i hwait).trans ?_
      rw [hfirst, ← Function.iterate_add_apply, List.count_cons]
      by_cases hij : i = j
      · rw [if_pos hij, if_pos (beq_iff_eq.2 hij.symm)]
      · rw [if_neg hij, if_neg fun h => hij (beq_iff_eq.1 h).symm]
    · show (dropHeads q.length n (dropHead n s)).poster n = _
      rw [hlast, hposter]

/-- The fault of the report write of a ring 1 to 7 (R165). -/
theorem exec_reportWriteFault {n : RingId} {s : State} (hrun : s.ctl = .running) (haccess : Access.report n ∈ s.accesses)
    (hn : n ≠ 0) (hsource : (s.poster n).inFlight ≠ none) :
    exec (.reportWriteFault n) s = .next (settle ((dropHeads (s.poster n).queue.length n
      ({ s with accesses := s.accesses.erase (.report n) }.modPoster n fun p =>
        { p with state := .faulted, inFlight := none })).raised (.reportFault n (s.poster n).tail))) := by
  show execReportWriteFault n s = _
  rw [execReportWriteFault, if_neg hn, finishing_of_running _ haccess hrun, takeReportFault]
  obtain ⟨source, hsource⟩ := Option.ne_none_iff_exists'.1 hsource
  rw [show ((finishAccess (.report n) s).poster n).inFlight = some source from hsource]
  dsimp only
  rw [raiseEvent_eq_raised] <;> rfl

/-- The fault of the report write of ring 0 in RUNNING (R167). -/
theorem exec_ring0ReportWriteFault {s : State} (hrun : s.ctl = .running) (haccess : Access.report 0 ∈ s.accesses) :
    exec .ring0ReportWriteFault s = .next (settle (takeRing0Fault (finishAccess (.report 0) s))) := by
  show execRing0ReportWriteFault s = _
  rw [execRing0ReportWriteFault, finishing_of_running _ haccess hrun]

/-- Settles O44: ring 0 freezes the part, and the queue of another ring is discarded head by head. -/
theorem reportWriteFaults : Obligations.ReportWriteFaults := by
  unfold Obligations.ReportWriteFaults
  refine ⟨fun source s hrun haccess hsource => ?_, fun n s hrun haccess hn hsource hclosers => ?_⟩
  · rw [exec_ring0ReportWriteFault hrun haccess, takeRing0Fault,
      show ((finishAccess (.report 0) s).poster 0).inFlight = some source from hsource]
    cases source <;> exact congrArg Host.Outcome.next (settle_eq_self (by exact (nomatch ·)))
  · have hfaulted := State.poster_modPoster_self { s with accesses := s.accesses.erase (.report n) } n fun p =>
      { p with state := .faulted, inFlight := none }
    have hring0 : ({ s with accesses := s.accesses.erase (.report n) }.modPoster n fun p =>
        { p with state := .faulted, inFlight := none }).ClosersOnRing0 := hclosers
    obtain ⟨hdrops, hposter⟩ := dropHeads_drops hn (s.poster n).queue hring0 (by rw [hfaulted]; rfl)
    refine ⟨_, exec_reportWriteFault hrun haccess hn hsource, hdrops.frame, ?_, fun m h0 hm => ?_, fun j hj => ?_⟩
    · rw [hposter, hfaulted]
      rfl
    · exact (hdrops.poster m h0 hm).trans (State.poster_modPoster_ne (h := hm) ..)
    · have hslot := hdrops.slot j hj
      exact ⟨fun hmore => hslot.trans (dropReport_iterate hmore),
        fun hfinal => hslot.trans (dropReport_iterate_final hfinal)⟩

end Sys2Proof.Machine
end

section
/-! SUPPORT. The alignment list of a SPAN, and the expiries an arrival belongs after (O14 to O17). -/

namespace Sys2Proof.Machine

-- One proof at a time: every thread reserves memory of its own, and the check bounds the whole.
set_option Elab.async false

/-! ### The alignment list -/

/-- An arrival takes its place before the first that is stamped later (R35). -/
theorem insertAligned_splits (src : LaneId) (a : Arrival) (alignment : List (LaneId × Arrival)) :
    ∃ before behind, alignment = before ++ behind ∧ (∀ b ∈ before, earlier a.stamp b.2.stamp = false) ∧
      (∀ b ∈ behind.head?, earlier a.stamp b.2.stamp = true) ∧
      insertAligned src a alignment = before ++ (src, a) :: behind := by
  induction alignment with
  | nil => exact ⟨[], [], rfl, by simp, by simp, rfl⟩
  | cons b rest ih =>
    cases hb : earlier a.stamp b.2.stamp with
    | true => exact ⟨[], b :: rest, rfl, by simp, by simpa using hb, by simp [insertAligned, hb]⟩
    | false =>
      obtain ⟨before, behind, hsplit, hbefore, hbehind, hinsert⟩ := ih
      refine ⟨b :: before, behind, by rw [hsplit]; rfl, fun q hq => ?_, hbehind, by simp [insertAligned, hb, hinsert]⟩
      rcases List.mem_cons.1 hq with rfl | hq
      · exact hb
      · exact hbefore q hq

theorem takeAlignedUpTo_eq (k : Nat) (l : LaneId) : ∀ s : State, takeAlignedUpTo k l s = (takeAligned l)^[k] s := by
  induction k with
  | zero => exact fun _ => rfl
  | succ k ih => exact fun s => ih _

/-- An aligned arrival is due when the timebase has reached its timestamp plus the larger filter width (R35). -/
theorem alignedDue_eq {s : State} {p : LaneId} {j : SlotId} {job : Job} (hjob : (s.slot j).job = some job)
    (hkind : job.kind = .span) (t : Stamp) :
    alignedDue s p j t = !earlier s.timebase (t + BitVec.ofNat 48
      (max (s.lane p).filterWidth.toNat (s.lane (Fin.ofNat 16 job.fields.partner.toNat)).filterWidth.toNat)) := by
  unfold alignedDue
  rw [jobOf_of_job hjob, settleInterval_of_span _ _ hkind]
  rfl

/-- What taking an arrival from those formed leaves of each lane. -/
theorem State.consumed_lane (s : State) (l m : LaneId) (rest : List Arrival) :
    ∃ formed, (s.consumed l rest).lane m = { s.lane m with formed := formed } := by
  rw [State.consumed, State.lane_modLane]
  split
  next h => exact ⟨rest, by rw [h]⟩
  next => exact ⟨_, rfl⟩

/-- An arrival that the context of an active SPAN takes enters its alignment list (R35). -/
theorem takeArrival_aligned {s : State} {l p : LaneId} {j : SlotId} {job : Job} {c : Context} {a : Arrival}
    (hlane : contextLane s l = some p) (hctx : (s.lane p).ctx = some c) (hactive : (s.lane p).active = some j)
    (hjob : (s.slot j).job = some job) (hkind : job.kind = .span) (hphase : c.phase ≠ .held)
    (haccept : earlier a.stamp c.acceptFrom = false) :
    takeArrival l a s =
      let placed := setContext p { c with alignment := insertAligned l a c.alignment } s
      if alignedDue s p j a.stamp then (takeAligned p)^[c.alignment.length + 1] placed else placed := by
  have hspan : isSpan (jobOf s j) = true := by rw [jobOf_of_job hjob, isSpan_iff]; exact hkind
  have hig : ¬ (c.phase = .held ∨ earlier a.stamp c.acceptFrom = true) := by simp [hphase, haccept]
  unfold takeArrival
  rw [hlane]
  dsimp only
  rw [hctx, hactive]
  dsimp only
  rw [if_neg hig, if_pos hspan, takeAlignedUpTo_eq]

/-- The lane whose context takes an arrival at either lane of an active SPAN (R6). -/
theorem contextLane_span {s : State} {l p : LaneId} {j : SlotId} {job : Job} (hrun : s.ctl = .running)
    (hhold : (s.lane l).hold = false)
    (hlanes : (s.lane l).lentTo = none ∧ p = l ∨
      ∃ loan, (s.lane l).lentTo = some loan ∧ loan.primary = p ∧ loan.slot = j ∧
        Fin.ofNat 16 job.fields.partner.toNat = l)
    (hactive : (s.lane p).active = some j) (hjob : (s.slot j).job = some job) (hkind : job.kind = .span) :
    contextLane s l = some p := by
  rcases hlanes with ⟨hlent, rfl⟩ | ⟨loan, hlent, rfl, rfl, hpartner⟩
  · rw [contextLane_own hrun hhold hlent, hactive]
    rfl
  · rw [contextLane_lent hrun hhold hlent]
    exact if_pos ⟨hactive, (activeSpanOn_iff _ _ _).2 ⟨_, job, hactive, hjob, hkind, hpartner⟩⟩

/-- Settles O14: the insertion splits the list at the arrival's place, and a due one is taken behind those ahead. -/
theorem spanArrivalsAreAligned : Obligations.SpanArrivalsAreAligned := by
  unfold Obligations.SpanArrivalsAreAligned
  intro l p j job c a rest s hrun hhold hformed hlanes hactive hctx hjob hkind hphase haccept due
  obtain ⟨before, behind, hsplit, hbefore, hbehind, hinsert⟩ := insertAligned_splits l a c.alignment
  refine ⟨before, behind, hsplit, hbefore, hbehind, ?_⟩
  intro placed
  have hexec := exec_edgeArrival hformed
  obtain ⟨formed, hp⟩ := s.consumed_lane l p rest
  obtain ⟨formed', hpartner⟩ := s.consumed_lane l (Fin.ofNat 16 job.fields.partner.toNat) rest
  have htake := takeArrival_aligned (s := s.consumed l rest) (l := l) (p := p) (j := j) (c := c) (a := a)
    (by rw [contextLane_consumed]; exact contextLane_span hrun hhold hlanes hactive hjob hkind)
    (by rw [hp]; exact hctx) (by rw [hp]; exact hactive) hjob hkind hphase haccept
  rw [alignedDue_eq (s := s.consumed l rest) hjob hkind, hp, hpartner, hinsert] at htake
  have hdue : ∀ b, earlier s.timebase due = b →
      takeArrival l a (s.consumed l rest) =
        if (!b) = true then (takeAligned p)^[c.alignment.length + 1] placed else placed := by
    rintro b rfl
    exact htake
  exact ⟨fun hearly => by rw [hexec, hdue _ hearly]; rfl, fun hnow => by rw [hexec, hdue _ hnow]; rfl⟩

/-! ### Productions and the other parts of a lane -/

/-- The accounts of a production are the same before and after a change of the lane that spares its FIFO. -/
theorem accountProduction_modLane {l : LaneId} {j : SlotId} {m : Measurement} {flags : MeasFlags} {s : State}
    {f : Lane → Lane} (hf : ∀ y q, f { y with fifo := q } = { f y with fifo := q }) :
    accountProduction l j m flags (s.modLane l f) = (accountProduction l j m flags s).modLane l f := by
  have hlane : (s.modLane l f).lane l = f (s.lane l) := State.lane_modLane_self ..
  have hfifo (y : Lane) : (f y).fifo = y.fifo := by
    have hsame := congrArg Lane.fifo (hf y y.fifo)
    exact hsame
  have hbuffer : stagingBuffer ((s.modLane l f).slot j) ((s.modLane l f).lane l) =
      stagingBuffer (s.slot j) (s.lane l) := by
    rw [hlane]
    unfold stagingBuffer
    rw [hfifo]
    rfl
  cases hb : stagingBuffer (s.slot j) (s.lane l) with
  | none =>
    rw [accountProduction_lost _ _ hb, accountProduction_lost _ _ (hbuffer.trans hb), setSlot_modLane_comm]
    rfl
  | some b =>
    rw [accountProduction_staged _ _ hb, accountProduction_staged _ _ (hbuffer.trans hb), setSlot_modLane_comm,
      State.modLane_modLane, State.modLane_modLane]
    refine congrArg (fun g : Lane → Lane => (s.modLane l g).setSlot j _) (funext fun y => ?_)
    refine Eq.trans ?_ (hf y _).symm
    rw [hfifo]
    rfl

/-- A production that does not end the job goes on to its next context (R22, R24). -/
theorem produce_goes_on {l : LaneId} {j : SlotId} {m : Measurement} {next : Context} {job : Job} {s : State}
    (hjob : (s.slot j).job = some job)
    (hend : productionEnd job (measurementFlags job m.value m.overflow m.edgeSeen) ((s.slot j).produced + 1) = none) :
    produce l j m next s =
      (accountProduction l j m (measurementFlags job m.value m.overflow m.edgeSeen) s).modLane l
        fun y => { y with ctx := some next } := by
  rw [produce_eq hjob, hend]

/-- A production that goes on leaves the job, the controller and all of the lane but its context and its FIFO. -/
theorem produce_leaves {l : LaneId} {j : SlotId} {m : Measurement} {next : Context} {job : Job} {s : State}
    (hjob : (s.slot j).job = some job)
    (hend : productionEnd job (measurementFlags job m.value m.overflow m.edgeSeen) ((s.slot j).produced + 1) = none) :
    (∃ fifo, (produce l j m next s).lane l = { s.lane l with fifo := fifo, ctx := some next }) ∧
      ((produce l j m next s).slot j).job = some job ∧ (produce l j m next s).ctl = s.ctl := by
  rw [produce_goes_on hjob hend]
  refine ⟨?_, ?_, ?_⟩
  · obtain ⟨fifo, hlane⟩ := accountProduction_lane (s := s) l l j m
      (measurementFlags job m.value m.overflow m.edgeSeen)
    exact ⟨fifo, by rw [State.lane_modLane_self, hlane]⟩
  · rw [State.modLane_slot, ← hjob]
    cases hb : stagingBuffer (s.slot j) (s.lane l) with
    | none => rw [accountProduction_lost _ _ hb, State.slot_setSlot_self]; rfl
    | some b =>
      rw [accountProduction_staged _ _ hb, State.slot_setSlot_self]
      unfold reservePlace
      simp only
      split <;> rfl
  · exact (accountProduction_sameOutside s l j m _).ctl

/-- Taking an arrival from those formed commutes with a production that goes on. -/
theorem produce_consumed {l : LaneId} {j : SlotId} {m : Measurement} {next : Context} {job : Job} {s : State}
    (rest : List Arrival) (hjob : (s.slot j).job = some job)
    (hend : productionEnd job (measurementFlags job m.value m.overflow m.edgeSeen) ((s.slot j).produced + 1) = none) :
    produce l j m next (s.consumed l rest) = (produce l j m next s).consumed l rest := by
  rw [produce_goes_on hjob hend, produce_goes_on (s := s.consumed l rest) hjob hend, State.consumed,
    accountProduction_modLane fun _ _ => rfl, State.consumed, State.modLane_modLane, State.modLane_modLane]

/-- A production that goes on leaves what decides whether an aligned arrival is due (R35). -/
theorem produce_alignedDue {l : LaneId} {j : SlotId} {m : Measurement} {next : Context} {job : Job} {s : State}
    {t : Stamp} (hjob : (s.slot j).job = some job)
    (hend : productionEnd job (measurementFlags job m.value m.overflow m.edgeSeen) ((s.slot j).produced + 1) = none) :
    alignedDue (produce l j m next s) l j t = alignedDue s l j t := by
  obtain ⟨-, hjob', -⟩ := produce_leaves (l := l) (next := next) hjob hend
  have htime : (produce l j m next s).timebase = s.timebase := by
    rw [produce_goes_on hjob hend]
    exact (accountProduction_sameOutside s l j m _).timebase
  have hwidth (k : LaneId) : ((produce l j m next s).lane k).filterWidth = (s.lane k).filterWidth := by
    rw [produce_goes_on hjob hend, State.lane_modLane]
    obtain ⟨fifo, hk⟩ := accountProduction_lane (s := s) l k j m
      (measurementFlags job m.value m.overflow m.edgeSeen)
    split
    next h => subst h; rw [hk]
    next => rw [hk]
  simp only [alignedDue, settleInterval, jobOf_of_job hjob, jobOf_of_job hjob', htime, hwidth]

/-- A production that goes on does not read the context it replaces. -/
theorem produce_setContext {l : LaneId} {j : SlotId} {m : Measurement} {next : Context} {job : Job} {s : State}
    (before after : Context) (hjob : (s.slot j).job = some job)
    (hend : productionEnd job (measurementFlags job m.value m.overflow m.edgeSeen) ((s.slot j).produced + 1) = none) :
    (produce l j m next s).modLane l (fun y => { y with ctx := some after }) =
      produce l j m after (s.modLane l fun y => { y with ctx := some before }) := by
  rw [produce_goes_on hjob hend, produce_goes_on (s := s.modLane l fun y => { y with ctx := some before }) hjob hend,
    accountProduction_modLane fun _ _ => rfl, State.modLane_modLane, State.modLane_modLane]

/-! ### A pending expiry -/

section
variable {s : State} {l : LaneId} {j : SlotId} {job : Job} {c : Context} {p : Expiry}

theorem pendingExpiry_eq (hctx : (s.lane l).ctx = some c) : pendingExpiry s l = c.pending := by
  rw [pendingExpiry, hctx]

theorem takeExpiry_eq (hactive : (s.lane l).active = some j) (hctx : (s.lane l).ctx = some c)
    (hjob : (s.slot j).job = some job) (hpending : c.pending = some p) :
    takeExpiry l s =
      match p.kind with
      | .overflow => produce l j (overflowMeasurement job c p) (rearm c) s
      | .windowEnd =>
        produce l j (windowMeasurement job c p) (openWindow job.fields (settleInterval s l job) p.nominal c) s := by
  unfold takeExpiry
  rw [hctx, hactive]
  dsimp only
  rw [hpending, jobOf_of_job hjob] <;> rfl

theorem expiryDue_eq (k : ExpiryKind) (hctx : (s.lane l).ctx = some c) (hpending : c.pending = some p) :
    expiryDue k l s = (s.running && p.kind == k && !earlier s.timebase p.due) := by
  rw [expiryDue, pendingExpiry_eq hctx, hpending]
  rfl

/-- Only an expiry that is due in RUNNING is taken (R9, R12). -/
theorem expiryDue_eq_false (k : ExpiryKind) (hctx : (s.lane l).ctx = some c) (hpending : c.pending = some p)
    (h : s.ctl ≠ .running ∨ p.kind ≠ k ∨ earlier s.timebase p.due = true) : expiryDue k l s = false := by
  rw [expiryDue_eq k hctx hpending]
  rcases h with h | h | h
  · simp [State.running, h]
  · simp [beq_false_of_ne h]
  · simp [h]

theorem expiryDue_eq_true (hctx : (s.lane l).ctx = some c) (hpending : c.pending = some p) (hrun : s.ctl = .running)
    (hdue : earlier s.timebase p.due = false) : expiryDue p.kind l s = true := by
  rw [expiryDue_eq _ hctx hpending, running_eq_true_iff.2 hrun, hdue]
  simp

end

/-! ### An arrival behind a pending expiry -/

section
variable {s : State} {l : LaneId} {j : SlotId} {job : Job} {c : Context} {a : Arrival}

/-- An arrival that a lane's own job takes, which is no SPAN, is taken behind the expiries before it (R6, R10). -/
theorem takeArrival_own (hlane : contextLane s l = some l) (hactive : (s.lane l).active = some j)
    (hctx : (s.lane l).ctx = some c) (hjob : (s.slot j).job = some job) (hkind : job.kind ≠ .span)
    (hphase : c.phase ≠ .held) (haccept : earlier a.stamp c.acceptFrom = false) :
    takeArrival l a s = arrivalNow l a (takeExpiriesBefore l a.stamp s) := by
  have hspan : ¬ isSpan (jobOf s j) = true := by rw [jobOf_of_job hjob, isSpan_iff]; exact hkind
  have hig : ¬ (c.phase = .held ∨ earlier a.stamp c.acceptFrom = true) := by simp [hphase, haccept]
  unfold takeArrival
  rw [hlane]
  dsimp only
  rw [hctx, hactive]
  dsimp only
  rw [if_neg hig, if_neg hspan]

/-- The command of an arrival that a lane's own job takes, which is no SPAN. -/
theorem exec_edgeArrival_own {rest : List Arrival} (hrun : s.ctl = .running) (hhold : (s.lane l).hold = false)
    (hlent : (s.lane l).lentTo = none) (hformed : (s.lane l).formed = a :: rest)
    (hactive : (s.lane l).active = some j) (hctx : (s.lane l).ctx = some c) (hjob : (s.slot j).job = some job)
    (hkind : job.kind ≠ .span) (hphase : c.phase ≠ .held) (haccept : earlier a.stamp c.acceptFrom = false) :
    exec (.edgeArrival l a.polarity a.stamp) s =
      .next (settle (arrivalNow l a (takeExpiriesBefore l a.stamp (s.consumed l rest)))) := by
  have hlane : contextLane (s.consumed l rest) l = some l := by
    rw [contextLane_consumed, contextLane_own hrun hhold hlent, hactive]
    rfl
  rw [exec_edgeArrival hformed, takeArrival_own (s := s.consumed l rest) hlane (by rwa [State.consumed_active])
    (by rwa [State.consumed_ctx]) hjob hkind hphase haccept]

/-- An arrival after a production that goes on is taken in the state the production leaves. -/
theorem exec_edgeArrival_produced {rest : List Arrival} {m : Measurement} {next : Context} (hrun : s.ctl = .running)
    (hhold : (s.lane l).hold = false) (hlent : (s.lane l).lentTo = none) (hformed : (s.lane l).formed = a :: rest)
    (hactive : (s.lane l).active = some j) (hjob : (s.slot j).job = some job) (hkind : job.kind ≠ .span)
    (hphase : next.phase ≠ .held) (haccept : earlier a.stamp next.acceptFrom = false)
    (hend : productionEnd job (measurementFlags job m.value m.overflow m.edgeSeen) ((s.slot j).produced + 1) = none) :
    exec (.edgeArrival l a.polarity a.stamp) (produce l j m next s) = .next (settle (arrivalNow l a
      (takeExpiriesBefore l a.stamp ((produce l j m next s).consumed l rest)))) := by
  obtain ⟨⟨fifo, hleft⟩, hjob', hctl⟩ := produce_leaves (next := next) hjob hend
  exact exec_edgeArrival_own (s := produce l j m next s) (hctl.trans hrun) (by rw [hleft]; exact hhold)
    (by rw [hleft]; exact hlent) (by rw [hleft]; exact hformed) (by rw [hleft]; exact hactive) (by rw [hleft]) hjob'
    hkind hphase haccept

end

/-! ### Window ends -/

theorem prescaleTicks_bounds (code : Byte) : 1 ≤ prescaleTicks code ∧ prescaleTicks code ≤ 512 := by
  unfold prescaleTicks
  split
  · omega
  · split
    · omega
    · split <;> omega

/-- A window is open for at least a tick and at most 2^41. -/
theorem windowTicks_bounds {e : MeasEntry} (h : e.window ≠ 0) : 1 ≤ windowTicks e ∧ windowTicks e ≤ 2 ^ 41 := by
  obtain ⟨hlow, hhigh⟩ := prescaleTicks_bounds e.prescale
  have hpos : 1 ≤ e.window.toNat := Nat.one_le_iff_ne_zero.2 fun h0 => h (BitVec.eq_of_toNat_eq h0)
  have hlt : e.window.toNat < 2 ^ 32 := e.window.isLt
  constructor
  · exact Nat.mul_le_mul hpos hlow
  · calc windowTicks e ≤ 2 ^ 32 * 512 := Nat.mul_le_mul hlt.le hhigh
      _ = 2 ^ 41 := by norm_num

/-- A window that ends later than the arrival is not taken before it. -/
theorem earlier_later_of_lt {t nominal : Stamp} {w : Nat} (hw : w ≤ 2 ^ 41) (hlt : elapsed nominal t < w) :
    earlier t (later nominal w) = true := by
  rw [earlier_iff]
  unfold elapsed at hlt
  unfold later
  constructor <;> bv_omega

/-- The time from a window's end to a later arrival is what is left of the time from the window's start. -/
theorem elapsed_later {t nominal : Stamp} {w : Nat} (hw : w ≤ 2 ^ 41) (hle : w ≤ elapsed nominal t) :
    elapsed (later nominal w) t = elapsed nominal t - w := by
  unfold elapsed at hle ⊢
  unfold later
  bv_omega

section
variable {l : LaneId} {t : Stamp} {c : Context} {j : SlotId} {s : State}

/-- No expiry is taken before an arrival that the pending one comes after (R10). -/
theorem takeExpiriesUpTo_eq_self {p : Expiry} (k : Nat) (hctx : (s.lane l).ctx = some c) (hpending : c.pending = some p)
    (h : earlier t p.nominal = true) : takeExpiriesUpTo k l t s = s := by
  cases k with
  | zero => rfl
  | succ k =>
    rw [takeExpiriesUpTo, pendingExpiry_eq hctx, hpending]
    simp [atOrAfter, h]

/-- A window's end at or before the arrival is taken, and then those of the windows it opens (R10). -/
theorem takeExpiriesBefore_windowEnd {job : Job} {p q : Expiry} {u : State} {c' : Context}
    (hactive : (s.lane l).active = some j) (hctx : (s.lane l).ctx = some c) (hjob : (s.slot j).job = some job)
    (hpending : c.pending = some p) (hkind : p.kind = .windowEnd) (hwindow : job.fields.window ≠ 0)
    (hbehind : earlier t p.nominal = false) (hnext : takeExpiry l s = u)
    (hactive' : (u.lane l).active = some j) (hctx' : (u.lane l).ctx = some c') (hjob' : (u.slot j).job = some job)
    (hpending' : c'.pending = some q) (hkind' : q.kind = .windowEnd)
    (hnominal : q.nominal = later p.nominal (windowTicks job.fields)) :
    takeExpiriesBefore l t s = takeExpiriesBefore l t u := by
  obtain ⟨hpos, hle⟩ := windowTicks_bounds hwindow
  have hfuel : expiriesUpTo s l t = elapsed p.nominal t / windowTicks job.fields + 1 := by
    rw [expiriesUpTo, pendingExpiry_eq hctx, hpending, hactive]
    simp only [hkind, jobOf_of_job hjob]
  have hfuel' : expiriesUpTo u l t = elapsed q.nominal t / windowTicks job.fields + 1 := by
    rw [expiriesUpTo, pendingExpiry_eq hctx', hpending', hactive']
    simp only [hkind', jobOf_of_job hjob']
  have hstep : takeExpiriesBefore l t s = takeExpiriesUpTo (elapsed p.nominal t / windowTicks job.fields) l t u := by
    rw [takeExpiriesBefore, hfuel, takeExpiriesUpTo, pendingExpiry_eq hctx, hpending, ← hnext]
    simp [atOrAfter, hbehind]
  rw [hstep, takeExpiriesBefore, hfuel']
  by_cases hmore : windowTicks job.fields ≤ elapsed p.nominal t
  · rw [hnominal, elapsed_later hle hmore, ← Nat.div_eq_sub_div hpos hmore]
  · have hearly : earlier t q.nominal = true := by
      rw [hnominal]
      exact earlier_later_of_lt hle (Nat.lt_of_not_le hmore)
    rw [takeExpiriesUpTo_eq_self _ hctx' hpending' hearly, takeExpiriesUpTo_eq_self _ hctx' hpending' hearly]

end

/-- The measurement a window's end produces (R40, R42). -/
theorem windowMeasurement_eq {job : Job} (h : job.kind = .tally ∨ job.kind = .quiet) (c : Context) (p : Expiry) :
    windowMeasurement job c p =
      { value := if job.kind = .tally then c.edgeCounter else c.firstEdge.getD 0xFFFFFFFF
        aux := job.fields.window
        startTs := c.startTs
        endTs := p.nominal
        overflow := job.kind == .tally && c.saturated
        edgeSeen := job.kind == .quiet && c.firstEdge.isSome } := by
  unfold windowMeasurement
  rcases h with h | h <;> rw [h] <;> rfl

/-- Settles O16: the expiry is the production of its window, taken when due or before a later arrival. -/
theorem windowEndProducesAndReopens : Obligations.WindowEndProducesAndReopens := by
  unfold Obligations.WindowEndProducesAndReopens
  intro l j job c p s hactive hctx hjob hkind hpending hp windowEnd m next
  have hspan : job.kind ≠ .span := by rcases hkind with h | h <;> rw [h] <;> exact (nomatch ·)
  have htake {u : State} (hactive : (u.lane l).active = some j) (hctx : (u.lane l).ctx = some c)
      (hjob : (u.slot j).job = some job) (hwidth : (u.lane l).filterWidth = (s.lane l).filterWidth) :
      takeExpiry l u = produce l j m next u := by
    rw [takeExpiry_eq hactive hctx hjob hpending, hp]
    dsimp only
    rw [windowMeasurement_eq hkind, settleInterval_of_ne_span _ _ hspan, hwidth]
    rfl
  refine ⟨fun hrun hdue => ?_, fun a rest hrun hhold hlent hformed hphase haccept hbehind hwindow hend => ?_,
    fun h => ?_, ?_⟩
  · show execWindowEndExpiry l s = _
    have hnow := expiryDue_eq_true hctx hpending hrun hdue
    rw [hp] at hnow
    rw [execWindowEndExpiry, if_pos hnow, htake hactive hctx hjob rfl]
  · have hnext : takeExpiry l (s.consumed l rest) = (produce l j m next s).consumed l rest := by
      rw [htake (u := s.consumed l rest) (by rwa [State.consumed_active]) (by rwa [State.consumed_ctx]) hjob (State.consumed_filterWidth rest),
        produce_consumed rest hjob hend]
    obtain ⟨⟨fifo, hleft⟩, hjob', -⟩ := produce_leaves (next := next) hjob hend
    have hsame : takeExpiriesBefore l a.stamp (s.consumed l rest) =
        takeExpiriesBefore l a.stamp ((produce l j m next s).consumed l rest) :=
      takeExpiriesBefore_windowEnd (s := s.consumed l rest) (by rwa [State.consumed_active]) (by rwa [State.consumed_ctx]) hjob hpending hp
        hwindow hbehind hnext (by rw [State.consumed_active, hleft]; exact hactive)
        (by rw [State.consumed_ctx, hleft]) hjob' rfl rfl rfl
    rw [exec_edgeArrival_own hrun hhold hlent hformed hactive hctx hjob hspan (by rw [hphase]; exact (nomatch ·)) haccept,
      exec_edgeArrival_produced hrun hhold hlent hformed hactive hjob hspan (next := next) (nomatch ·) haccept hend, hsame]
  · show execWindowEndExpiry l s = _
    rw [execWindowEndExpiry, expiryDue_eq_false _ hctx hpending (h.imp_right .inr)]
    rfl
  · show execOverflowBoundExpiry l s = _
    rw [execOverflowBoundExpiry, expiryDue_eq_false _ hctx hpending (.inr (.inl (by rw [hp]; exact (nomatch ·))))]
    rfl

/-! ### Overflow bounds -/

/-- An overflow bound at or before the arrival is taken, and nothing is pending behind it (R10). -/
theorem takeExpiriesBefore_overflow {s : State} {l : LaneId} {t : Stamp} {c : Context} {j : SlotId} {p : Expiry}
    (hactive : (s.lane l).active = some j) (hctx : (s.lane l).ctx = some c) (hpending : c.pending = some p)
    (hkind : p.kind = .overflow) (hbehind : earlier t p.nominal = false) :
    takeExpiriesBefore l t s = takeExpiry l s := by
  have hfuel : expiriesUpTo s l t = 1 := by
    rw [expiriesUpTo, pendingExpiry_eq hctx, hpending, hactive]
    simp only [hkind]
  rw [takeExpiriesBefore, hfuel, takeExpiriesUpTo, pendingExpiry_eq hctx, hpending]
  simp [atOrAfter, hbehind, takeExpiriesUpTo]

/-- The expiry of an overflow bound (R30, R33, R37). -/
theorem takeExpiry_overflow {s : State} {l : LaneId} {c : Context} {j : SlotId} {job : Job} {p : Expiry}
    (hactive : (s.lane l).active = some j) (hctx : (s.lane l).ctx = some c) (hjob : (s.slot j).job = some job)
    (hpending : c.pending = some p) (hkind : p.kind = .overflow) :
    takeExpiry l s = produce l j (overflowMeasurement job c p) (rearm c) s := by
  rw [takeExpiry_eq hactive hctx hjob hpending, hkind]

/-- Settles O17: the expiry is the production of an overflow, taken when due or before a later arrival. -/
theorem overflowBoundProduces : Obligations.OverflowBoundProduces := by
  unfold Obligations.OverflowBoundProduces
  intro l j job c p s hactive hctx hjob hpending hp m next
  refine ⟨fun hrun hdue => ?_, fun a rest hrun hhold hlent hformed hkind hphase haccept hbehind hend => ?_,
    fun h => ?_, ?_⟩
  · show execOverflowBoundExpiry l s = _
    have hnow := expiryDue_eq_true hctx hpending hrun hdue
    rw [hp] at hnow
    rw [execOverflowBoundExpiry, if_pos hnow, takeExpiry_overflow hactive hctx hjob hpending hp]
    rfl
  · have hspan : job.kind ≠ .span := by rcases hkind with h | h <;> rw [h] <;> exact (nomatch ·)
    have hnext : takeExpiriesBefore l a.stamp (s.consumed l rest) = (produce l j m next s).consumed l rest := by
      rw [takeExpiriesBefore_overflow (s := s.consumed l rest) (by rwa [State.consumed_active]) (by rwa [State.consumed_ctx]) hpending hp hbehind,
        takeExpiry_overflow (s := s.consumed l rest) (by rwa [State.consumed_active]) (by rwa [State.consumed_ctx]) hjob hpending hp]
      exact produce_consumed rest hjob hend
    obtain ⟨⟨fifo, hleft⟩, -, -⟩ := produce_leaves (next := next) hjob hend
    have hsame : takeExpiriesBefore l a.stamp ((produce l j m next s).consumed l rest) =
        (produce l j m next s).consumed l rest :=
      takeExpiriesBefore_eq_self (c := next) (by rw [State.consumed_ctx, hleft])
        fun q hq => absurd hq (Option.not_mem_none q)
    rw [exec_edgeArrival_own hrun hhold hlent hformed hactive hctx hjob hspan (by rw [hphase]; exact (nomatch ·)) haccept,
      exec_edgeArrival_produced hrun hhold hlent hformed hactive hjob hspan (next := next) (nomatch ·) haccept hend,
      hnext, hsame]
  · show execOverflowBoundExpiry l s = _
    rw [execOverflowBoundExpiry, expiryDue_eq_false _ hctx hpending (h.imp_right .inr)]
    rfl
  · show execWindowEndExpiry l s = _
    rw [execWindowEndExpiry, expiryDue_eq_false _ hctx hpending (.inr (.inl (by rw [hp]; exact (nomatch ·))))]
    rfl

/-! ### Aligned arrivals -/

section
variable {s : State} {l src : LaneId} {j : SlotId} {job : Job} {c : Context} {a : Arrival}
  {rest : List (LaneId × Arrival)}

/-- The oldest aligned arrival, when it is due, is taken behind the expiries before it (R10, R35). -/
theorem takeAligned_due (hactive : (s.lane l).active = some j) (hctx : (s.lane l).ctx = some c)
    (halign : c.alignment = (src, a) :: rest) (hdue : alignedDue s l j a.stamp = true) :
    takeAligned l s =
      let u := takeExpiriesBefore l a.stamp (s.modLane l fun x => { x with ctx := some { c with alignment := rest } })
      if (u.lane l).active = some j then arrivalAtContext l src a u else arrivalNow src a u := by
  unfold takeAligned
  rw [hctx, hactive]
  dsimp only
  rw [halign]
  exact if_pos hdue

/-- Before its instant no aligned arrival is taken (R35). -/
theorem takeAligned_early (hactive : (s.lane l).active = some j) (hctx : (s.lane l).ctx = some c)
    (halign : c.alignment = (src, a) :: rest) (hdue : alignedDue s l j a.stamp = false) : takeAligned l s = s := by
  unfold takeAligned
  rw [hctx, hactive]
  dsimp only
  rw [halign]
  exact if_neg (by rw [hdue]; exact (nomatch ·))

theorem alignedHeadDue_eq (hactive : (s.lane l).active = some j) (hctx : (s.lane l).ctx = some c)
    (halign : c.alignment = (src, a) :: rest) :
    alignedHeadDue l s = (s.running && alignedDue s l j a.stamp) := by
  unfold alignedHeadDue
  rw [hctx, hactive]
  dsimp only
  rw [halign]

/-- An arrival that reaches a lane with nothing pending before it, and no SPAN, is taken at once (R6). -/
theorem takeArrival_eq_arrivalNow (hlent : (s.lane l).lentTo = none)
    (hspan : ∀ i ∈ (s.lane l).active, ∀ k ∈ (s.slot i).job, k.kind ≠ .span)
    (hpending : ∀ k ∈ (s.lane l).ctx, ∀ q ∈ k.pending, earlier a.stamp q.nominal = true) :
    takeArrival l a s = arrivalNow l a s := by
  cases hlane : contextLane s l with
  | none => simp only [takeArrival, arrivalNow, hlane]
  | some p =>
    have hp : p = l := by
      unfold contextLane at hlane
      dsimp only at hlane
      rw [hlent] at hlane
      dsimp only at hlane
      split at hlane
      · exact nomatch hlane
      · split at hlane
        · exact (Option.some.inj hlane).symm
        · exact nomatch hlane
    subst hp
    cases hctx : (s.lane p).ctx with
    | none => simp only [takeArrival, arrivalNow, arrivalAtContext, hlane, hctx]
    | some c =>
      cases hactive : (s.lane p).active with
      | none => simp only [takeArrival, arrivalNow, arrivalAtContext, hlane, hctx, hactive]
      | some i =>
        have hnot : ¬ isSpan (jobOf s i) = true := by
          rw [isSpan_jobOf_iff]
          exact fun ⟨k, hk, hkind⟩ => hspan i (by rw [hactive]; rfl) k hk hkind
        by_cases hig : c.phase = .held ∨ earlier a.stamp c.acceptFrom = true
        · simp only [takeArrival, arrivalNow, arrivalAtContext, hlane, hctx, hactive, if_pos hig]
        · have hself := takeExpiriesBefore_eq_self (t := a.stamp) hctx (hpending c (by rw [hctx]; rfl))
          simp only [takeArrival, hlane, hctx, hactive, if_neg hig, if_neg hnot, hself]

end

/-- The effect of an arrival at a SPAN that waits for a start or a stop edge (R36). -/
theorem spanArrival_eq {s : State} {l src : LaneId} {j : SlotId} {job : Job} {c : Context} {a : Arrival}
    {settleTicks : Nat} (hjob : (s.slot j).job = some job) (hsettle : settleInterval s l job = settleTicks)
    (hphase : c.phase = .armed ∨ c.phase = .measuring) :
    spanArrival l j src c a s =
      if c.phase = .armed then
        if src = l ∧ matchesSpec job.fields.startSpec a.polarity = true then
          (s.modLane l fun x =>
            { x with ctx := some (startMeasuring job.fields settleTicks a.stamp c) }).modSlot j
            fun y => { y with startTimer := none }
        else s
      else if src ≠ l ∧ matchesSpec job.fields.stopSpec a.polarity = true ∧ earlier c.startTs a.stamp = true then
        produce l j (stopMeasurement job c a) (rearm c) s
      else s := by
  unfold spanArrival
  rw [jobOf_of_job hjob]
  rcases hphase with h | h
  · simp only [h, if_true, hsettle, takeStart, setContext]
  · simp only [h, reduceCtorEq, if_false]

theorem overflowMeasurement_span {job : Job} (h : job.kind = .span) (c : Context) (p : Expiry) :
    overflowMeasurement job c p =
      { value := 0xFFFFFFFF, aux := 0, startTs := c.startTs, endTs := p.nominal, overflow := true } := by
  unfold overflowMeasurement
  rw [h]
  rfl

theorem modLane_eq_self (s : State) (l : LaneId) : s.modLane l (fun x => x) = s := by
  rw [State.modLane, State.setLane_lane_self]

/-- Settles O15: the head of the list is taken when due, with an earlier bound taken before it. -/
theorem alignedArrivalsAreTakenWhenDue : Obligations.AlignedArrivalsAreTakenWhenDue := by
  unfold Obligations.AlignedArrivalsAreTakenWhenDue
  intro l src j job c a rest s hactive hctx hjob hkind halign settleTicks ticks bound c' s' early
  have hdue : alignedDue s l j a.stamp = !early := alignedDue_eq hjob hkind a.stamp
  have hhead := alignedHeadDue_eq hactive hctx halign
  rw [hdue] at hhead
  have hlane' : s'.lane l = { s.lane l with ctx := some c' } := State.lane_modLane_self ..
  have hactive' : (s'.lane l).active = some j := by rw [hlane']; exact hactive
  have hctx' : (s'.lane l).ctx = some c' := by rw [hlane']
  have hwidth (m : LaneId) : (s'.lane m).filterWidth = (s.lane m).filterWidth := by
    rw [State.lane_modLane]
    split
    next h => rw [h]
    next => rfl
  have hsettle : settleInterval s' l job = settleTicks := by
    rw [settleInterval_of_span _ _ hkind, hwidth, hwidth]
    rfl
  refine ⟨fun hrun hnow => ?_, fun h => ?_, fun hearly => ?_, fun hnow hphase haccept hpending => ?_,
    fun p hnow hp hpkind hbehind => ?_⟩
  · show execAlignedArrivalDue l s = _
    rw [execAlignedArrivalDue, hhead, hnow, running_eq_true_iff.2 hrun]
    rfl
  · show execAlignedArrivalDue l s = _
    rw [execAlignedArrivalDue, hhead]
    rcases h with h | h
    · rw [show s.running = false by simp [State.running, h]]
      rfl
    · rw [h, Bool.not_true, Bool.and_false]
      rfl
  · exact takeAligned_early hactive hctx halign (by rw [hdue, hearly]; rfl)
  · rw [takeAligned_due hactive hctx halign (by rw [hdue, hnow]; rfl)]
    dsimp only
    rw [takeExpiriesBefore_eq_self hctx' hpending, if_pos hactive', arrivalAtContext_eq hctx' hactive' hjob
      (by rcases hphase with h | h <;> rw [show c'.phase = _ from h] <;> exact (nomatch ·)) haccept, hkind]
    dsimp only
    exact spanArrival_eq hjob hsettle hphase
  · intro m ends
    have hbefore : takeExpiriesBefore l a.stamp s' =
        produce l j m { c' with phase := .armed, edgeCounter := 0, pending := none } s' := by
      rw [takeExpiriesBefore_overflow hactive' hctx' hp hpkind hbehind,
        takeExpiry_overflow hactive' hctx' hjob hp hpkind, overflowMeasurement_span hkind]
      rfl
    have htaken := takeAligned_due hactive hctx halign (by rw [hdue, hnow]; rfl)
    dsimp only at htaken
    rw [hbefore] at htaken
    refine ⟨fun hend => ?_, fun _ => ?_⟩
    · obtain ⟨⟨fifo, hleft⟩, hjob', -⟩ := produce_leaves
        (next := { c with phase := .armed, edgeCounter := 0, pending := none }) hjob hend
      have hafter := takeAligned_due (src := src) (a := a) (rest := rest)
        (c := { c with phase := .armed, edgeCounter := 0, pending := none })
        (s := produce l j m { c with phase := .armed, edgeCounter := 0, pending := none } s)
        (by rw [hleft]; exact hactive) (by rw [hleft]) halign
        (by rw [produce_alignedDue hjob hend, hdue, hnow]; rfl)
      dsimp only at hafter
      have hsame := produce_setContext (l := l) c' { c' with phase := .armed, edgeCounter := 0, pending := none }
        (next := { c with phase := .armed, edgeCounter := 0, pending := none }) hjob hend
      have hself {u : State} (hctx : (u.lane l).ctx = some { c' with phase := .armed, edgeCounter := 0, pending := none }) :
          takeExpiriesBefore l a.stamp u = u :=
        takeExpiriesBefore_eq_self hctx fun q hq => absurd hq (Option.not_mem_none q)
      rw [htaken, hafter, hself (by rw [State.lane_modLane_self]), hsame]
    · intro v x hgone hlent hspan hpending
      have hnext : takeAligned l s = arrivalNow src a v := htaken.trans (if_neg hgone)
      have hback : (v.modLane src fun y => { y with formed := a :: y.formed }).consumed src x.formed = v := by
        rw [State.consumed, State.modLane_modLane]
        exact (modLane_congr rfl).trans (modLane_eq_self v src)
      rw [hnext, exec_edgeArrival (rest := x.formed) (by rw [State.lane_modLane_self]), hback,
        takeArrival_eq_arrivalNow hlent hspan hpending]

end Sys2Proof.Machine
end

section
/-! SUPPORT. Holding and releasing: the marks a hold sets, the notices a primary takes, and how a HELD job resumes (O35,
O36). -/

namespace Sys2Proof.Machine

-- One proof at a time: every thread reserves memory of its own, and the check bounds the whole.
set_option Elab.async false

/-! ### Writes to two lanes -/

/-- Writes to different lanes commute. -/
theorem modLane_comm {s : State} {l m : LaneId} (h : l ≠ m) (f g : Lane → Lane) :
    (s.modLane l f).modLane m g = (s.modLane m g).modLane l f := by
  show ((s.modLane l f).setLane m (g ((s.modLane l f).lane m))) = (s.modLane m g).setLane l (f ((s.modLane m g).lane l))
  rw [State.lane_modLane_ne (h := h.symm), State.lane_modLane_ne (h := h)]
  show ({ s with lanes := (s.lanes.set l (f (s.lane l))).set m (g (s.lane m)) } : State) =
    { s with lanes := (s.lanes.set m (g (s.lane m))).set l (f (s.lane l)) }
  rw [Vector.set_comm _ _ fun hlm => h (Fin.ext hlm)]

/-! ### Drain marks -/

/-- The drain marks a hold sets on a lane: one for the newest record that stands there, when there is one (R92). -/
def Lane.newestMarks (x : Lane) (holder : SlotId) : List DrainMark :=
  ((x.fifo.getLast?).or x.writeSlot).toList.map fun r =>
    { holder := holder, recordSlot := r.slot, recordIndex := r.index }

theorem newestRecord_eq (x : Lane) : newestRecord x = (x.fifo.getLast?).or x.writeSlot := by
  unfold newestRecord
  cases x.fifo.getLast? <;> rfl

theorem newestMarks_length (x : Lane) (holder : SlotId) :
    (x.newestMarks holder).length = if (newestRecord x).isSome then 1 else 0 := by
  unfold Lane.newestMarks
  rw [newestRecord_eq, List.length_map]
  cases (x.fifo.getLast?).or x.writeSlot <;> rfl

theorem setMark_eq (j : SlotId) (l : LaneId) (s : State) :
    setMark j l s = s.modLane l fun x => { x with drainMarks := x.drainMarks ++ x.newestMarks j } := by
  unfold setMark
  cases hnewest : newestRecord (s.lane l) with
  | none =>
    have hmarks : (s.lane l).newestMarks j = [] := by
      unfold Lane.newestMarks
      rw [← newestRecord_eq, hnewest]
      rfl
    refine (modLane_eq_self s l).symm.trans (modLane_congr ?_)
    rw [hmarks, List.append_nil]
  | some r =>
    refine modLane_congr ?_
    unfold Lane.newestMarks
    rw [← newestRecord_eq, hnewest]
    rfl

/-- A hold waits for the newest record of its lane, and of the primary the lane is lent to (R92). -/
theorem marksSet_eq (s : State) (l : LaneId) (holder : SlotId) :
    marksSet s l = ((s.lane l).newestMarks holder).length +
      (((s.lane l).lentTo.map fun loan => ((s.lane loan.primary).newestMarks holder).length).getD 0) := by
  unfold marksSet drainLanes
  cases (s.lane l).lentTo with
  | none => simp [newestMarks_length]
  | some loan => simp [newestMarks_length, List.countP_cons, Nat.add_comm]

/-! ### The withdraw of a held lane's head -/

/-- The lane's head, while it asks for its partner, sends a withdraw (R60). -/
def State.withdrawing (s : State) (l : LaneId) : State :=
  match (s.lane l).queue with
  | [] => s
  | h :: _ =>
    if (s.lane l).loanPhase = .asked then
      { s with
        loanMsgs := s.loanMsgs ++
          [{ src := l, dst := partnerOf (jobOf s h).fields, kind := .withdraw
             loan :=
               { primary := l, slot := h, number := (s.lane l).loanNumber
                 ring := (s.slot h).ring, tag := (s.slot h).tag } }] }
    else s

theorem withdrawing_of_not_asked {s : State} {l : LaneId} (h : (s.lane l).loanPhase ≠ .asked) : s.withdrawing l = s := by
  unfold State.withdrawing
  split
  · rfl
  · exact if_neg h

/-- The head of a lane withdraws after a change of the lane that spares its queue and its loan (R60). -/
theorem withdrawHead_modLane {s : State} {l : LaneId} {f : Lane → Lane}
    (hqueue : (f (s.lane l)).queue = (s.lane l).queue) (hphase : (f (s.lane l)).loanPhase = (s.lane l).loanPhase)
    (hnumber : (f (s.lane l)).loanNumber = (s.lane l).loanNumber) :
    withdrawHead l (s.modLane l f) =
      (s.withdrawing l).modLane l fun x => { f x with loanPhase := .idle, partnerMark := false } := by
  unfold withdrawHead State.withdrawing
  rw [State.lane_modLane_self]
  dsimp only
  rw [hqueue, hphase, hnumber]
  cases (s.lane l).queue with
  | nil => exact State.modLane_modLane ..
  | cons h rest =>
    dsimp only
    split
    · exact congrArg (sendLoan
        { src := l, dst := partnerOf (jobOf s h).fields, kind := .withdraw
          loan :=
            { primary := l, slot := h, number := (s.lane l).loanNumber
              ring := (s.slot h).ring, tag := (s.slot h).tag } }) (State.modLane_modLane s l f fun x =>
          { x with loanPhase := .idle, partnerMark := false })
    · exact State.modLane_modLane ..

/-! ### The notices a primary takes -/

/-- Whether the slot holds a SPAN with this partner. -/
def State.borrows (s : State) (l : LaneId) (j : SlotId) : Bool :=
  (s.slot j).job.any fun job => job.kind == .span && Fin.ofNat 16 job.fields.partner.toNat == l

theorem borrows_eq (s : State) (l : LaneId) (j : SlotId) :
    (isSpan (jobOf s j) && partnerOf (jobOf s j).fields == l) = s.borrows l j := by
  unfold jobOf State.borrows
  cases (s.slot j).job <;> rfl

theorem activeSpanOn_eq (s : State) (p l : LaneId) :
    activeSpanOn s p l = (s.lane p).active.any (s.borrows l) := by
  unfold activeSpanOn
  cases (s.lane p).active with
  | none => rfl
  | some j => exact borrows_eq s l j

theorem headAsks_eq (s : State) (p l : LaneId) (loan : Loan) :
    headAsks s p l loan =
      ((s.lane p).queue.head? == some loan.slot && (s.lane p).loanPhase == .asked && s.borrows l loan.slot) := by
  unfold headAsks
  rw [Bool.and_assoc (_ && _), borrows_eq]

/-! ### An accepted hold -/

/-- The end of a HOLD_LANE that set `n` marks: it answers at once, or waits for them (R93). -/
def State.holdEnds (s : State) (j : SlotId) (lane ring : Byte) (tag : Tag) (abandoned : Bool) (n : Nat) : State :=
  if n = 0 then answer j .ok (.holdLane lane ring tag abandoned) s
  else s.modSlot j fun y => { y with state := .waiting, wait := .hold n lane ring tag abandoned }

theorem holdLane_accepted {e : LaneEntry} {j : SlotId} {s : State} {l : LaneId} (hlane : laneOf e.lane = some l)
    (hfree : (s.lane l).hold = false) :
    holdLane e j s = (holdLanes j l s).holdEnds j e.lane (foundRing (jobFound s l)) (foundTag (jobFound s l))
      (abandonsAt s l) (marksSet s l) := by
  unfold holdLane
  rw [hlane]
  dsimp only
  rw [if_neg (by rw [hfree]; exact (nomatch ·))]
  rfl

section
variable {s : State} {l : LaneId}

/-- What a hold does to its own lane before the marks and the notice (R90). -/
theorem withdrawHead_held :
    withdrawHead l (holdLaneContext l (s.modLane l fun x => { x with hold := true })) =
      (s.withdrawing l).modLane l fun x =>
        { x with hold := true, ctx := x.ctx.map holdContext, loanPhase := .idle, partnerMark := false } := by
  rw [holdLaneContext, State.modLane_modLane, withdrawHead_modLane rfl rfl rfl]

/-- A hold of a lane that is not lent holds its context, withdraws its head and marks its newest record (R90 to R92). -/
theorem holdLanes_own (j : SlotId) (hlent : (s.lane l).lentTo = none) :
    holdLanes j l s = (s.withdrawing l).modLane l fun y =>
      { y with
        hold := true
        ctx := y.ctx.map holdContext
        loanPhase := .idle
        partnerMark := false
        drainMarks := y.drainMarks ++ y.newestMarks j } := by
  unfold holdLanes drainLanes
  dsimp only
  rw [hlent, withdrawHead_held]
  dsimp only [List.foldl_cons, List.foldl_nil]
  rw [setMark_eq, State.modLane_modLane]
  rfl

/-- A hold of a lent lane with nothing of its own marks the newest records of the lane and of the primary, which takes
the hold notice (R91, R92). -/
theorem holdLanes_lent (j : SlotId) {loan : Loan} (hlent : (s.lane l).lentTo = some loan)
    (hctx : (s.lane l).ctx = none) (hphase : (s.lane l).loanPhase = .idle) (hne : loan.primary ≠ l) {g : Lane → Lane}
    (hnotice : ∀ f : Lane → Lane, holdNotice l loan (s.modLane l f) = (s.modLane l f).modLane loan.primary g) :
    holdLanes j l s = (s.modLane l fun y =>
        { y with hold := true, partnerMark := false, drainMarks := y.drainMarks ++ y.newestMarks j }).modLane
      loan.primary fun y => { g y with drainMarks := (g y).drainMarks ++ (g y).newestMarks j } := by
  unfold holdLanes drainLanes
  dsimp only
  rw [hlent, withdrawHead_held, withdrawing_of_not_asked (by rw [hphase]; exact (nomatch ·))]
  dsimp only [List.foldl_cons, List.foldl_nil]
  rw [hnotice, setMark_eq, setMark_eq, modLane_comm hne, State.modLane_modLane, State.modLane_modLane]
  refine congrArg (fun u : State => u.modLane loan.primary _) (modLane_congr ?_)
  dsimp only
  rw [hctx, hphase]
  rfl

end

/-! ### What a hold finds -/

section
variable {s : State} {l : LaneId}

theorem jobFound_active {j : SlotId} (h : (s.lane l).active = some j) :
    jobFound s l = some ((s.slot j).ring, (s.slot j).tag) := by
  rw [jobFound, h]
  rfl

theorem jobFound_idle (h : (s.lane l).active = none) :
    jobFound s l = (s.lane l).lentTo.map fun loan => (loan.ring, loan.tag) := by
  rw [jobFound, h]

theorem abandonsAt_active {j : SlotId} (h : (s.lane l).active = some j) :
    abandonsAt s l = (s.lane l).ctx.any holdAbandons := by
  rw [abandonsAt, h]

theorem abandonsAt_lent {loan : Loan} (h : (s.lane l).active = none) (hlent : (s.lane l).lentTo = some loan) :
    abandonsAt s l = (activeSpanOn s loan.primary l && (s.lane loan.primary).ctx.any holdAbandons) := by
  rw [abandonsAt, h, hlent]

theorem abandonsAt_idle (h : (s.lane l).active = none) (hlent : (s.lane l).lentTo = none) : abandonsAt s l = false := by
  rw [abandonsAt, h, hlent]

/-- The primary of an active SPAN is not changed by its partner. -/
theorem activeSpanOn_modLane_ne {p : LaneId} (f : Lane → Lane) (h : p ≠ l) :
    activeSpanOn (s.modLane l f) p l = activeSpanOn s p l := by
  rw [activeSpanOn_eq, activeSpanOn_eq, State.lane_modLane_ne (h := h)]
  rfl

theorem headAsks_modLane_ne {p : LaneId} {loan : Loan} (f : Lane → Lane) (h : p ≠ l) :
    headAsks (s.modLane l f) p l loan = headAsks s p l loan := by
  rw [headAsks_eq, headAsks_eq, State.lane_modLane_ne (h := h)]
  rfl

/-- The hold notice of an active SPAN's partner holds the SPAN's context, with the partner-held mark (R91). -/
theorem holdNotice_active {loan : Loan} (hne : loan.primary ≠ l) (h : activeSpanOn s loan.primary l = true)
    (f : Lane → Lane) :
    holdNotice l loan (s.modLane l f) = (s.modLane l f).modLane loan.primary fun x =>
      { x with ctx := x.ctx.map fun c => { holdContext c with partnerHeld := true } } := by
  unfold holdNotice
  dsimp only
  rw [activeSpanOn_modLane_ne f hne, if_pos h]

/-- The hold notice of a lane that no active SPAN borrows marks the SPAN that asks for the lane (R62, R91). -/
theorem holdNotice_not_active {loan : Loan} (hne : loan.primary ≠ l) (h : activeSpanOn s loan.primary l = false)
    (f : Lane → Lane) :
    holdNotice l loan (s.modLane l f) = (s.modLane l f).modLane loan.primary fun x =>
      { x with partnerMark := x.partnerMark || headAsks s loan.primary l loan } := by
  unfold holdNotice
  dsimp only
  rw [activeSpanOn_modLane_ne f hne, headAsks_modLane_ne f hne, h]
  cases headAsks s loan.primary l loan with
  | true => simp
  | false => simpa using (modLane_eq_self (s.modLane l f) loan.primary).symm

end

/-- The tests of HOLD_LANE and RELEASE_LANE after steps 1 and 2 (R90, R95). -/
theorem laneTests_none {b : Byte} {passed : Bool} {st : Status}
    (h : firstRefusal [(decide (b.toNat ≤ 15), .badLane), (passed, st)] = none) :
    laneOf b = some (Fin.ofNat 16 b.toNat) ∧ passed = true := by
  have hall := firstRefusal_eq_none_iff.1 h
  have hlane : b.toNat ≤ 15 := of_decide_eq_true (hall _ (List.mem_cons_self ..))
  exact ⟨by rw [laneOf_eq, if_pos hlane], hall (passed, st) (by simp)⟩

theorem holdLane_refused {e : LaneEntry} {j : SlotId} {s : State} {st : Status}
    (h : firstRefusal [(decide (e.lane.toNat ≤ 15), .badLane), (!(s.lane (Fin.ofNat 16 e.lane.toNat)).hold, .alreadyHeld)] =
      some st) : holdLane e j s = answer j st (.holdLane e.lane 0 Config.noTag false) s := by
  unfold holdLane
  rw [firstRefusal_cons] at h
  rw [laneOf_eq]
  split at h
  next hlane =>
    rw [if_pos (of_decide_eq_true hlane)]
    dsimp only
    cases hhold : (s.lane (Fin.ofNat 16 e.lane.toNat)).hold with
    | true =>
      rw [hhold] at h
      cases h
      rfl
    | false =>
      rw [hhold] at h
      exact nomatch h
  next hlane =>
    cases h
    rw [if_neg fun h => hlane (decide_eq_true h)]

/-- Settles O35: by what the lane serves: nobody, its own job, or a SPAN of another lane. -/
theorem holdingALaneHoldsItsJobs : Obligations.HoldingALaneHoldsItsJobs := by
  unfold Obligations.HoldingALaneHoldsItsJobs
  intro e f s h hring htag d l x tests newest marks heldContext done
  have hexec : exec (.holdLane e) s = .next (settle (holdLane e f.slot d)) :=
    fetched_control (zeros := .holdLane 0 0 0xFFFF false) h hring htag
  rw [hexec]
  cases htests : firstRefusal tests with
  | some st => exact congrArg (fun u => Host.Outcome.next (settle u)) (holdLane_refused htests)
  | none =>
    obtain ⟨hlane, hpassed⟩ := laneTests_none htests
    have hfree : x.hold = false := by simpa using hpassed
    have hheld := holdLane_accepted (j := f.slot) hlane hfree
    rw [hheld, marksSet_eq d _ f.slot]
    have hnext {u v : State} (h : u = v) :
        (Host.Outcome.next (settle u) : Host.Outcome State Fault Refusal) = .next (settle v) := by rw [h]
    refine ⟨fun hlent => hnext ?_, fun loan job c hlent hactive hctx hphase hne hprimary hjob hkind hpartner hctxp => ?_,
      fun loan hlent hactive hctx hphase hne => ?_⟩
    · rw [holdLanes_own f.slot hlent, show (d.lane l).lentTo = none from hlent]
      cases hactive : x.active with
      | none =>
        rw [jobFound_idle hactive, abandonsAt_idle hactive hlent, show (d.lane l).lentTo = none from hlent]
        rfl
      | some j =>
        rw [jobFound_active hactive, abandonsAt_active hactive]
        rfl
    · have hspan : activeSpanOn d loan.primary l = true :=
        (activeSpanOn_iff _ _ _).2 ⟨_, job, hprimary, hjob, hkind, hpartner⟩
      rw [holdLanes_lent f.slot hlent hctx hphase hne (holdNotice_active hne hspan), jobFound_idle hactive,
        abandonsAt_lent hactive hlent, hspan, hctxp, show (d.lane l).lentTo = some loan from hlent]
      refine hnext (congrArg (fun v : State => v.holdEnds f.slot e.lane (BitVec.ofNat 8 loan.ring.val) loan.tag
        (holdAbandons c) ((marks x).length + (marks (d.lane loan.primary)).length)) (modLane_congr ?_))
      rw [State.lane_modLane_ne (h := hne), hctxp]
      rfl
    · intro y borrows asks u hidle
      have hspan : activeSpanOn d loan.primary l = false := by
        rw [activeSpanOn_eq]
        cases hy : (d.lane loan.primary).active with
        | none => rfl
        | some i => exact hidle i (Option.mem_def.2 hy)
      rw [holdLanes_lent f.slot hlent hctx hphase hne (holdNotice_not_active hne hspan), jobFound_idle hactive,
        abandonsAt_lent hactive hlent, hspan, headAsks_eq, show (d.lane l).lentTo = some loan from hlent]
      rfl

/-! ### Releases -/

/-- The context of a job that resumes is the fresh one of R43 and R96. -/
theorem resumeContext_eq (job : Job) (settleTicks : Nat) (now : Stamp) (c : Context) :
    resumeContext job settleTicks now c = resumedContext job settleTicks now c := by
  unfold resumeContext beginContext resumedContext
  dsimp only
  by_cases h : (job.kind = .tally ∨ job.kind = .quiet) ∧ job.fields.startSpec = 0
  · rw [if_pos ((startsAtActivation_iff job).2 h), if_pos h]
    rfl
  · rw [if_neg fun hstarts => h ((startsAtActivation_iff job).1 hstarts), if_neg h]

section
variable {s : State} {l : LaneId}

/-- The job on a lane resumes at the present instant (R96). -/
theorem resumeLane_eq {j : SlotId} {job : Job} {c : Context} (hactive : (s.lane l).active = some j)
    (hctx : (s.lane l).ctx = some c) (hjob : (s.slot j).job = some job) :
    resumeLane l s = s.modLane l fun x =>
      { x with ctx := some (resumedContext job (settleInterval s l job) s.timebase c) } := by
  unfold resumeLane
  rw [hactive]
  refine modLane_congr ?_
  rw [hctx, jobOf_of_job hjob, Option.map_some, resumeContext_eq]

theorem canResume_eq {j : SlotId} {c : Context} (hactive : (s.lane l).active = some j) (hctx : (s.lane l).ctx = some c) :
    canResume s l = decide ((s.lane l).hold = false ∧ c.phase = .held ∧ c.partnerHeld = false) := by
  unfold canResume
  dsimp only
  rw [hactive, hctx]
  simp [Bool.decide_and, Bool.beq_eq_decide_eq]

/-- The end of a RELEASE_LANE whose lanes `u` leaves, with the job that resumes on the lane `m` (R95). -/
def State.releases (u : State) (j : SlotId) (lane : Byte) (l : LaneId) (m : Option LaneId) : State :=
  answer j .ok (.releaseLane lane (foundRing ((m.bind fun m => (u.lane m).active).map (jobName u)))
    (foundTag ((m.bind fun m => (u.lane m).active).map (jobName u))))
    (laneAct l (match m with | none => u | some m => resumeLane m u))

theorem releaseLane_accepted {e : LaneEntry} {j : SlotId} (hlane : laneOf e.lane = some l)
    (hheld : (s.lane l).hold = true) :
    releaseLane e j s = (clearHold l s).releases j e.lane l
      ((resumingLane (clearHold l s) l).filter (canResume (clearHold l s))) := by
  unfold releaseLane
  rw [hlane]
  dsimp only
  rw [if_pos hheld]
  rfl

theorem resumingLane_active {j : SlotId} (h : (s.lane l).active = some j) : resumingLane s l = some l := by
  rw [resumingLane, h]
  rfl

theorem resumingLane_idle (h : (s.lane l).active = none) (hlent : (s.lane l).lentTo = none) :
    resumingLane s l = none := by
  rw [resumingLane, h, hlent]
  rfl

theorem resumingLane_lent {loan : Loan} (h : (s.lane l).active = none) (hlent : (s.lane l).lentTo = some loan) :
    resumingLane s l = if activeSpanOn s loan.primary l then some loan.primary else none := by
  rw [resumingLane, h, hlent]
  rfl

/-- The release notice of an active SPAN's partner clears the partner-held mark of its context (R95). -/
theorem releaseNotice_active {loan : Loan} (hne : loan.primary ≠ l) (h : activeSpanOn s loan.primary l = true)
    (f : Lane → Lane) :
    releaseNotice l loan (s.modLane l f) = (s.modLane l f).modLane loan.primary fun x =>
      { x with ctx := x.ctx.map fun c => { c with partnerHeld := false } } := by
  unfold releaseNotice
  dsimp only
  rw [activeSpanOn_modLane_ne f hne, if_pos h]

/-- The release notice of a lane that no active SPAN borrows clears the mark of the SPAN that asks for the lane (R95). -/
theorem releaseNotice_not_active {loan : Loan} (hne : loan.primary ≠ l) (h : activeSpanOn s loan.primary l = false)
    (f : Lane → Lane) :
    releaseNotice l loan (s.modLane l f) = (s.modLane l f).modLane loan.primary fun x =>
      { x with partnerMark := x.partnerMark && !headAsks s loan.primary l loan } := by
  unfold releaseNotice
  dsimp only
  rw [activeSpanOn_modLane_ne f hne, headAsks_modLane_ne f hne, h]
  cases headAsks s loan.primary l loan with
  | true => simp
  | false => simpa using (modLane_eq_self (s.modLane l f) loan.primary).symm

theorem clearHold_own (hlent : (s.lane l).lentTo = none) :
    clearHold l s = s.modLane l fun x => { x with hold := false } := by
  rw [clearHold, hlent]

theorem clearHold_lent {loan : Loan} (hlent : (s.lane l).lentTo = some loan) :
    clearHold l s = releaseNotice l loan (s.modLane l fun x => { x with hold := false }) := by
  rw [clearHold, hlent]

/-- A release that resumes no job. -/
theorem releases_none (u : State) (j : SlotId) (lane : Byte) :
    u.releases j lane l none = answer j .ok (.releaseLane lane 0 0xFFFF) (laneAct l u) := rfl

/-- A release that resumes the job on the lane `m`. -/
theorem releases_some {u : State} {m : LaneId} {i : SlotId} (j : SlotId) (lane : Byte) (h : (u.lane m).active = some i) :
    u.releases j lane l (some m) =
      answer j .ok (.releaseLane lane (BitVec.ofNat 8 (u.slot i).ring.val) (u.slot i).tag)
        (laneAct l (resumeLane m u)) := by
  unfold State.releases
  rw [Option.bind_some, h]
  rfl

end

theorem settleInterval_modLane {s : State} {m : LaneId} {f : Lane → Lane} (hf : ∀ x, (f x).filterWidth = x.filterWidth)
    (l : LaneId) (job : Job) : settleInterval (s.modLane m f) l job = settleInterval s l job := by
  have hwidth (k : LaneId) : ((s.modLane m f).lane k).filterWidth = (s.lane k).filterWidth := by
    rw [State.lane_modLane]
    split
    next h => rw [hf, h]
    next => rfl
  simp only [settleInterval, hwidth]

/-- A lane with an active job, or lent, does nothing on its new state. -/
theorem laneAct_of_busy {s : State} {l : LaneId} (h : (s.lane l).active ≠ none ∨ (s.lane l).lentTo ≠ none) :
    laneAct l s = s :=
  laneAct_eq_self fun ⟨_, hactive, hlent, _⟩ => h.elim (· hactive) (· hlent)

theorem laneAct_modLane_of_active {s : State} {l : LaneId} {f : Lane → Lane} (h : (f (s.lane l)).active ≠ none) :
    laneAct l (s.modLane l f) = s.modLane l f :=
  laneAct_of_busy (.inl (by rwa [State.lane_modLane_self]))

theorem laneAct_modLane_of_lent {s : State} {l m : LaneId} (f : Lane → Lane) (hne : m ≠ l)
    (h : (s.lane l).lentTo ≠ none) : laneAct l (s.modLane m f) = s.modLane m f :=
  laneAct_of_busy (.inr (by rwa [State.lane_modLane_ne (h := hne.symm)]))

theorem releaseLane_refused {e : LaneEntry} {j : SlotId} {s : State} {st : Status}
    (h : firstRefusal [(decide (e.lane.toNat ≤ 15), .badLane), ((s.lane (Fin.ofNat 16 e.lane.toNat)).hold, .notHeld)] =
      some st) : releaseLane e j s = answer j st (.releaseLane e.lane 0 Config.noTag) s := by
  unfold releaseLane
  rw [firstRefusal_cons] at h
  rw [laneOf_eq]
  split at h
  next hlane =>
    rw [if_pos (of_decide_eq_true hlane)]
    dsimp only
    cases hhold : (s.lane (Fin.ofNat 16 e.lane.toNat)).hold with
    | true =>
      rw [hhold] at h
      exact nomatch h
    | false =>
      rw [hhold] at h
      cases h
      rfl
  next hlane =>
    cases h
    rw [if_neg fun h => hlane (decide_eq_true h)]

/-- A release that resumes no job, of the lane that `u` leaves. -/
def State.releasesNone (u : State) (e : LaneEntry) (j : SlotId) : State :=
  answer j .ok (.releaseLane e.lane 0 0xFFFF) u

/-- A release that resumes the job in slot `i`, with the lanes that `u` leaves. -/
def State.releasesJob (u : State) (e : LaneEntry) (j i : SlotId) : State :=
  answer j .ok (.releaseLane e.lane (BitVec.ofNat 8 (u.slot i).ring.val) (u.slot i).tag) u

section
variable {s : State} {l : LaneId} {e : LaneEntry} {j : SlotId}

/-- The release of an idle lane lets it act (R95). -/
theorem releaseLane_idle (hlane : laneOf e.lane = some l) (hheld : (s.lane l).hold = true)
    (hactive : (s.lane l).active = none) (hlent : (s.lane l).lentTo = none) :
    releaseLane e j s = (laneAct l (s.modLane l fun y => { y with hold := false })).releasesNone e j := by
  have hown := State.lane_modLane_self s l fun y => { y with hold := false }
  rw [releaseLane_accepted hlane hheld, clearHold_own hlent,
    resumingLane_idle (by rw [hown]; exact hactive) (by rw [hown]; exact hlent)]
  rfl

/-- The release of a lane with an active job resumes the job when it is HELD and its other lane is not (R95, R96). -/
theorem releaseLane_active {i : SlotId} {job : Job} {c : Context} (hlane : laneOf e.lane = some l)
    (hheld : (s.lane l).hold = true) (hactive : (s.lane l).active = some i) (hlent : (s.lane l).lentTo = none)
    (hctx : (s.lane l).ctx = some c) (hjob : (s.slot i).job = some job) :
    releaseLane e j s =
      if c.phase = .held ∧ c.partnerHeld = false then
        (State.modLane (s.modLane l fun y => { y with hold := false }) l fun y =>
          { y with ctx := some (resumedContext job (settleInterval s l job) s.timebase c) }).releasesJob e j i
      else (s.modLane l fun y => { y with hold := false }).releasesNone e j := by
  have hown := State.lane_modLane_self s l fun y => { y with hold := false }
  have hsettle : settleInterval (s.modLane l fun y => { y with hold := false }) l job = settleInterval s l job := by
    rw [settleInterval_modLane]
    exact fun _ => rfl
  rw [releaseLane_accepted hlane hheld, clearHold_own hlent]
  generalize hu : (s.modLane l fun y => { y with hold := false }) = u at hown hsettle ⊢
  have hslot (i : SlotId) : u.slot i = s.slot i := by rw [← hu]; rfl
  have htime : u.timebase = s.timebase := by rw [← hu]; rfl
  have hactive' : (u.lane l).active = some i := by rw [hown]; exact hactive
  have hctx' : (u.lane l).ctx = some c := by rw [hown]; exact hctx
  have hbusy : (u.lane l).active ≠ none := by rw [hactive']; exact (nomatch ·)
  have hfree : (u.lane l).hold = false := by rw [hown]
  rw [resumingLane_active hactive', Option.filter_some, canResume_eq hactive' hctx']
  by_cases hmay : c.phase = .held ∧ c.partnerHeld = false
  · rw [decide_eq_true ⟨hfree, hmay⟩, if_pos rfl, if_pos hmay, releases_some _ _ hactive',
      resumeLane_eq hactive' hctx' (by rw [hslot]; exact hjob), hsettle, htime, laneAct_modLane_of_active hbusy]
    rfl
  · rw [decide_eq_false fun h => hmay h.2, if_neg (nomatch ·), if_neg hmay, releases_none, laneAct_of_busy (.inl hbusy)]
    rfl

variable {loan : Loan}

/-- The lane and its primary, once the hold of a lent lane is cleared. -/
theorem lane_of_clearedLent {g : Lane → Lane} (hne : loan.primary ≠ l) :
    ((s.modLane l fun y => { y with hold := false }).modLane loan.primary g).lane l = { s.lane l with hold := false } ∧
      ((s.modLane l fun y => { y with hold := false }).modLane loan.primary g).lane loan.primary =
        g (s.lane loan.primary) := by
  rw [State.lane_modLane_ne (h := hne.symm), State.lane_modLane_self, State.lane_modLane_self,
    State.lane_modLane_ne (h := hne)]
  exact ⟨rfl, rfl⟩

/-- The release of a lane lent to an active SPAN clears the partner-held mark, and resumes the SPAN when it is HELD and
the primary is not held (R95, R96). -/
theorem releaseLane_lent_active {job : Job} {c : Context} (hlane : laneOf e.lane = some l)
    (hheld : (s.lane l).hold = true) (hactive : (s.lane l).active = none) (hlent : (s.lane l).lentTo = some loan)
    (hne : loan.primary ≠ l) (hprimary : (s.lane loan.primary).active = some loan.slot)
    (hjob : (s.slot loan.slot).job = some job) (hspan : activeSpanOn s loan.primary l = true)
    (hctx : (s.lane loan.primary).ctx = some c) :
    releaseLane e j s =
      if c.phase = .held ∧ (s.lane loan.primary).hold = false then
        (State.modLane (s.modLane l fun y => { y with hold := false }) loan.primary fun y =>
          { y with
            ctx := some (resumedContext job (settleInterval s loan.primary job) s.timebase
              { c with partnerHeld := false }) }).releasesJob e j loan.slot
      else (State.modLane (s.modLane l fun y => { y with hold := false }) loan.primary fun y =>
        { y with ctx := some { c with partnerHeld := false } }).releasesNone e j := by
  have hclear : clearHold l s = State.modLane (s.modLane l fun y => { y with hold := false }) loan.primary fun y =>
      { y with ctx := some { c with partnerHeld := false } } := by
    rw [clearHold_lent hlent, releaseNotice_active hne hspan]
    refine modLane_congr ?_
    rw [State.lane_modLane_ne (h := hne), hctx]
    rfl
  obtain ⟨hl, hp⟩ := lane_of_clearedLent (s := s) (g := fun y =>
    { y with ctx := some { c with partnerHeld := false } }) hne
  rw [releaseLane_accepted hlane hheld, hclear]
  generalize hu : State.modLane (s.modLane l fun y => { y with hold := false }) loan.primary
    (fun y => { y with ctx := some { c with partnerHeld := false } }) = u at hl hp ⊢
  have hslot (i : SlotId) : u.slot i = s.slot i := by rw [← hu]; rfl
  have htime : u.timebase = s.timebase := by rw [← hu]; rfl
  have hhold : (u.lane loan.primary).hold = (s.lane loan.primary).hold := by rw [hp]
  have hresumed (c' : Context) : u.modLane loan.primary (fun y => { y with ctx := some c' }) =
      State.modLane (s.modLane l fun y => { y with hold := false }) loan.primary
        fun y => { y with ctx := some c' } := by
    rw [← hu, State.modLane_modLane]
  have hbusy : (u.lane l).lentTo ≠ none := by rw [hl]; exact fun h => nomatch h.symm.trans hlent
  have hactive' : (u.lane loan.primary).active = some loan.slot := by rw [hp]; exact hprimary
  have hctx' : (u.lane loan.primary).ctx = some { c with partnerHeld := false } := by rw [hp]
  have hspan' : activeSpanOn u loan.primary l = true := by
    rw [← hspan, ← hu, activeSpanOn_eq, activeSpanOn_eq, State.lane_modLane_self, State.lane_modLane_ne (h := hne)]
    rfl
  have hsettle : settleInterval u loan.primary job = settleInterval s loan.primary job := by
    rw [← hu, settleInterval_modLane, settleInterval_modLane] <;> exact fun _ => rfl
  rw [resumingLane_lent (by rw [hl]; exact hactive) (by rw [hl]; exact hlent), hspan', if_pos rfl, Option.filter_some,
    canResume_eq hactive' hctx', hhold]
  by_cases hmay : c.phase = .held ∧ (s.lane loan.primary).hold = false
  · rw [decide_eq_true ⟨hmay.2, hmay.1, rfl⟩, if_pos rfl, if_pos hmay, releases_some _ _ hactive',
      resumeLane_eq hactive' hctx' (by rw [hslot]; exact hjob), hsettle, htime,
      laneAct_modLane_of_lent _ hne hbusy, hresumed, hslot]
    rfl
  · rw [decide_eq_false fun h => hmay ⟨h.2.1, h.1⟩, if_neg (nomatch ·), if_neg hmay, releases_none,
      laneAct_of_busy (.inr hbusy)]
    rfl

/-- The release of a lane lent to no active SPAN clears the mark of the SPAN that asks for it (R95). -/
theorem releaseLane_lent_idle (hlane : laneOf e.lane = some l)
    (hheld : (s.lane l).hold = true) (hactive : (s.lane l).active = none) (hlent : (s.lane l).lentTo = some loan)
    (hne : loan.primary ≠ l) (hspan : activeSpanOn s loan.primary l = false) :
    releaseLane e j s = (State.modLane (s.modLane l fun y => { y with hold := false }) loan.primary fun z =>
      { z with partnerMark := z.partnerMark && !headAsks s loan.primary l loan }).releasesNone e j := by
  obtain ⟨hl, hp⟩ := lane_of_clearedLent (s := s) (g := fun z =>
    { z with partnerMark := z.partnerMark && !headAsks s loan.primary l loan }) hne
  rw [releaseLane_accepted hlane hheld, clearHold_lent hlent, releaseNotice_not_active hne hspan]
  generalize hu : State.modLane (s.modLane l fun y => { y with hold := false }) loan.primary
    (fun z => { z with partnerMark := z.partnerMark && !headAsks s loan.primary l loan }) = u at hl hp ⊢
  have hbusy : (u.lane l).lentTo ≠ none := by rw [hl]; exact fun h => nomatch h.symm.trans hlent
  have hspan' : activeSpanOn u loan.primary l = false := by
    rw [← hspan, ← hu, activeSpanOn_eq, activeSpanOn_eq, State.lane_modLane_self, State.lane_modLane_ne (h := hne)]
    rfl
  rw [resumingLane_lent (by rw [hl]; exact hactive) (by rw [hl]; exact hlent), hspan', if_neg (nomatch ·),
    Option.filter_none, releases_none, laneAct_of_busy (.inr hbusy)]
  rfl

end

/-- Settles O36: by what the lane serves, and whether the other lane of that job is held. -/
theorem releasingALaneResumesItsJobs : Obligations.ReleasingALaneResumesItsJobs := by
  unfold Obligations.ReleasingALaneResumesItsJobs
  intro e f s h hring htag d l x tests cleared resumedBy noneResumed
  have hexec : exec (.releaseLane e) s = .next (settle (releaseLane e f.slot d)) :=
    fetched_control (zeros := .releaseLane 0 0 0xFFFF) h hring htag
  have hnext {u : State} (h : releaseLane e f.slot d = u) : exec (.releaseLane e) s = .next (settle u) := by rw [hexec, h]
  cases htests : firstRefusal tests with
  | some st => exact hnext (releaseLane_refused htests)
  | none =>
    obtain ⟨hlane, hheld⟩ := laneTests_none htests
    refine ⟨fun hactive hlent => hnext (releaseLane_idle hlane hheld hactive hlent),
      fun j job c hactive hlent hctx hjob => ?_,
      fun loan job c hactive hlent hne hprimary hjob hkind hpartner hctx => ?_, fun loan hactive hlent hne => ?_⟩
    · have hreleased := releaseLane_active (j := f.slot) hlane hheld hactive hlent hctx hjob
      exact ⟨fun hphase hmark => hnext (hreleased.trans (if_pos ⟨hphase, hmark⟩)),
        fun hstays => hnext (hreleased.trans (if_neg fun h => hstays.elim (· h.1) fun hmark => nomatch h.2.symm.trans hmark))⟩
    · have hspan : activeSpanOn d loan.primary l = true :=
        (activeSpanOn_iff _ _ _).2 ⟨_, job, hprimary, hjob, hkind, hpartner⟩
      have hreleased := releaseLane_lent_active (j := f.slot) hlane hheld hactive hlent hne hprimary hjob hspan hctx
      exact ⟨fun hphase hhold => hnext (hreleased.trans (if_pos ⟨hphase, hhold⟩)),
        fun hstays => hnext (hreleased.trans (if_neg fun h => hstays.elim (· h.1) fun hhold => nomatch h.2.symm.trans hhold))⟩
    · intro y borrows asks hidle
      have hspan : activeSpanOn d loan.primary l = false := by
        rw [activeSpanOn_eq]
        cases hy : (d.lane loan.primary).active with
        | none => rfl
        | some i => exact hidle i (Option.mem_def.2 hy)
      have hreleased := releaseLane_lent_idle (j := f.slot) hlane hheld hactive hlent hne hspan
      rw [headAsks_eq] at hreleased
      exact hnext hreleased

end Sys2Proof.Machine
end

section
/-! SUPPORT. Closing a job ring: what its steps leave of lanes and rings (`State.CloseFrame`), what reports do to the slots
(`State.SlotsMove`), and what becomes of each job (`Slot.Closed`) (O33). -/

namespace Sys2Proof.Machine

-- One proof at a time: every thread reserves memory of its own, and the check bounds the whole.
set_option Elab.async false

/-! ### What a close leaves of holds, claims and rings -/

/-- The holds and claims stand, and so does every job ring for which no close waits. -/
structure State.CloseFrame (s t : State) : Prop where
  hold : ∀ l : LaneId, (t.lane l).hold = (s.lane l).hold
  owner : ∀ l : LaneId, (t.lane l).owner = (s.lane l).owner
  ring : ∀ j : SlotId, (t.slot j).ring = (s.slot j).ring
  jobRing : ∀ q : RingId, (s.jobRing q).closer = none → t.jobRing q = s.jobRing q

theorem State.CloseFrame.refl (s : State) : s.CloseFrame s :=
  ⟨fun _ => rfl, fun _ => rfl, fun _ => rfl, fun _ _ => rfl⟩

theorem State.CloseFrame.trans {s t u : State} (h : s.CloseFrame t) (k : t.CloseFrame u) : s.CloseFrame u where
  hold l := (k.hold l).trans (h.hold l)
  owner l := (k.owner l).trans (h.owner l)
  ring j := (k.ring j).trans (h.ring j)
  jobRing q hq := (k.jobRing q (by rw [h.jobRing q hq]; exact hq)).trans (h.jobRing q hq)

theorem State.CloseFrame.foldl {α : Type} (f : State → α → State)
    (h : ∀ (s : State) (a : α), s.CloseFrame (f s a)) (as : List α) :
    ∀ s : State, s.CloseFrame (as.foldl f s) := by
  induction as with
  | nil => exact .refl
  | cons a as ih => exact fun s => (h s a).trans (ih _)

theorem State.ReportsOnly.closeFrame {s t : State} (h : s.ReportsOnly t)
    (hrings : ∀ q : RingId, (s.jobRing q).closer = none → t.jobRing q = s.jobRing q) : s.CloseFrame t :=
  ⟨fun l => by rw [h.lane l], fun l => by rw [h.lane l], fun j => by rw [h.slot j], hrings⟩

section
variable {s : State}

theorem modLane_closeFrame {l : LaneId} {f : Lane → Lane} (hhold : (f (s.lane l)).hold = (s.lane l).hold)
    (howner : (f (s.lane l)).owner = (s.lane l).owner) : s.CloseFrame (s.modLane l f) := by
  refine ⟨fun m => ?_, fun m => ?_, fun _ => rfl, fun _ _ => rfl⟩
  all_goals
    rw [State.lane_modLane]
    split
    next h => rw [h]; assumption
    next => rfl

theorem modSlot_closeFrame (j : SlotId) {f : Slot → Slot} (h : ∀ x, (f x).ring = x.ring) :
    s.CloseFrame (s.modSlot j f) := by
  refine ⟨fun _ => rfl, fun _ => rfl, fun i => ?_, fun _ _ => rfl⟩
  rw [State.slot_modSlot]
  split
  next hi => rw [h, hi]
  next => rfl

theorem completeClose_closeFrame {r : RingId} {c : SlotId} (ended waited : Nat) (h : (s.jobRing r).closer = some c) :
    s.CloseFrame (completeClose r c ended waited s) := by
  refine (completeClose_reportsOnly r c ended waited).closeFrame fun q hq => ?_
  have hne : q ≠ r := fun heq => nomatch (heq ▸ hq).symm.trans h
  have hring : (completeClose r c ended waited s).jobRing q =
      (s.modJobRing r fun q => { q with state := .closed, closer := none }).jobRing q := rfl
  rw [hring, State.jobRing_modJobRing_ne (h := hne)]

theorem countFreed_closeFrame (r : RingId) : s.CloseFrame (countFreed r s) := by
  unfold countFreed
  split
  · exact .refl s
  next c hclose =>
    split
    · split
      · exact completeClose_closeFrame _ _ hclose
      · exact modSlot_closeFrame c fun _ => rfl
    · exact .refl s

theorem freeSlot_closeFrame (j : SlotId) : s.CloseFrame (freeSlot j s) :=
  (modSlot_closeFrame j (by exact fun _ => rfl)).trans (countFreed_closeFrame _)

theorem dropHead_closeFrame (n : RingId) : s.CloseFrame (dropHead n s) := by
  have hposter (q : List SlotId) : s.CloseFrame (s.modPoster n fun p => { p with queue := q }) :=
    (modPoster_reportsOnly n _).closeFrame fun _ _ => rfl
  cases hqueue : (s.poster n).queue with
  | nil => rw [dropHead, hqueue]; exact .refl s
  | cons j q =>
    cases hreports : (s.slot j).reports with
    | nil => rw [dropHead_of_no_report hqueue hreports]; exact hposter q
    | cons r others =>
      have hleft := (hposter q).trans (modSlot_closeFrame j (f := fun x => { x with reports := others }) fun _ => rfl)
      rw [dropHead_cons hqueue hreports]
      dsimp only
      split
      · exact hleft.trans (freeSlot_closeFrame j)
      · exact hleft

theorem dropHeads_closeFrame (k : Nat) (n : RingId) : ∀ s : State, s.CloseFrame (dropHeads k n s) := by
  induction k with
  | zero => exact .refl
  | succ k ih => exact fun s => (dropHead_closeFrame n).trans (ih _)

theorem createReport_closeFrame (j : SlotId) (body : ReportBody) : s.CloseFrame (createReport j body s) := by
  have hpush : s.CloseFrame (pushReport j body s) := (pushReport_reportsOnly j body).closeFrame fun _ _ => rfl
  unfold createReport
  dsimp only
  split
  · exact hpush.trans (dropHeads_closeFrame _ _ _)
  · exact hpush

theorem completeCancel_closeFrame (c : SlotId) : s.CloseFrame (completeCancel c s) := by
  unfold completeCancel
  split
  · exact (modSlot_closeFrame c (by exact fun _ => rfl)).trans (createReport_closeFrame _ _)
  · exact .refl s

theorem enterPosting_closeFrame (j : SlotId) : s.CloseFrame (enterPosting j s) := by
  have hmap (m : List TagEntry) : s.CloseFrame (s.setTagMap (s.slot j).ring m) :=
    ⟨fun _ => rfl, fun _ => rfl, fun _ => rfl, fun _ _ => rfl⟩
  have hposted := ((hmap ((s.tagMap (s.slot j).ring).filter fun e => e.slot != j)).trans
    (modSlot_closeFrame j (f := fun y => { y with state := .posting, cancelWaiter := none }) fun _ => rfl)).trans
    (createReport_closeFrame j (.final ((s.slot j).endStatus.getD .ok) (finalAccount (s.slot j))))
  unfold enterPosting
  dsimp only
  split
  · exact hposted
  · exact hposted.trans (completeCancel_closeFrame _)

theorem drained_closeFrame (j : SlotId) : s.CloseFrame (s.drained j) := by
  unfold State.drained
  split
  · exact enterPosting_closeFrame j
  · exact .refl s

theorem leftQueue_closeFrame (l : LaneId) (j : SlotId) : s.CloseFrame (s.leftQueue l j) := by
  have hlane := modLane_closeFrame (s := s) (l := l) (f := fun y =>
    { y with
      queue := (s.lane l).queue.erase j
      loanPhase := if (s.lane l).queue.head? = some j then .idle else (s.lane l).loanPhase
      partnerMark := if (s.lane l).queue.head? = some j then false else (s.lane l).partnerMark }) rfl rfl
  exact ⟨hlane.hold, hlane.owner, hlane.ring, hlane.jobRing⟩

theorem leftLanes_closeFrame (l : LaneId) (j : SlotId) : s.CloseFrame (s.leftLanes l j) := by
  unfold State.leftLanes
  dsimp only
  split
  · exact (modLane_closeFrame rfl rfl).trans (modLane_closeFrame rfl rfl)
  · exact modLane_closeFrame rfl rfl

theorem sendLoan_closeFrame (m : LoanMsg) : s.CloseFrame (sendLoan m s) :=
  ⟨fun _ => rfl, fun _ => rfl, fun _ => rfl, fun _ _ => rfl⟩

theorem sendPlaceOpen_closeFrame (l : LaneId) (loan : Loan) : s.CloseFrame (sendPlaceOpen l loan s) := by
  rw [sendPlaceOpen_eq]
  exact ⟨fun _ => rfl, fun _ => rfl, fun _ => rfl, fun _ _ => rfl⟩

theorem activateHead_closeFrame (l : LaneId) : s.CloseFrame (activateHead l s) := by
  unfold activateHead
  split
  · exact .refl s
  · exact (modLane_closeFrame rfl rfl).trans (modSlot_closeFrame _ (by exact fun _ => rfl))

theorem laneAct_closeFrame (l : LaneId) : s.CloseFrame (laneAct l s) := by
  unfold laneAct
  split
  · split
    · exact .refl s
    · split
      · split
        · exact (modLane_closeFrame rfl rfl).trans (sendLoan_closeFrame _)
        · exact .refl s
      · exact activateHead_closeFrame l
  · split
    · split
      · exact .refl s
      · exact ((modLane_closeFrame rfl rfl).trans ((modLane_closeFrame rfl rfl).trans (sendLoan_closeFrame _))).trans
          (sendPlaceOpen_closeFrame _ _)
    · exact .refl s

end

/-! ### What reports and answers do to a slot -/

/-- A slot as reports and answers of this or of other slots leave it: a slot that waits for nothing keeps its end status
and its state, but a FINAL that is discarded frees it. -/
structure Slot.Moves (x y : Slot) : Prop where
  rest : y = { x with state := y.state, reports := y.reports, endStatus := y.endStatus, wait := y.wait }
  answers : y.Answers
  kept : x.state ≠ .waiting →
    y.endStatus = x.endStatus ∧ (y.state = x.state ∨ x.state = .posting ∧ y.state = .free)

theorem Slot.Moves.refl {x : Slot} (h : x.Answers) : x.Moves x := ⟨rfl, h, fun _ => ⟨rfl, .inl rfl⟩⟩

theorem Slot.Moves.trans {x y z : Slot} (h : x.Moves y) (k : y.Moves z) : x.Moves z where
  rest := by rw [k.rest, h.rest]
  answers := k.answers
  kept hx := by
    obtain ⟨hstatus, hstate⟩ := h.kept hx
    have hy : y.state ≠ .waiting := by
      rcases hstate with hsame | ⟨-, hfree⟩
      · rwa [hsame]
      · rw [hfree]; exact (nomatch ·)
    obtain ⟨kstatus, kstate⟩ := k.kept hy
    refine ⟨kstatus.trans hstatus, ?_⟩
    rcases hstate with hsame | ⟨hposting, hfree⟩
    · rwa [hsame] at kstate
    · rcases kstate with hsame' | ⟨hposting', -⟩
      · exact .inr ⟨hposting, hsame'.trans hfree⟩
      · exact nomatch hposting'.symm.trans hfree

/-- Every slot of `t` is as reports and answers leave that of `s`. -/
def State.SlotsMove (s t : State) : Prop := ∀ j : SlotId, (s.slot j).Answers → (s.slot j).Moves (t.slot j)

theorem State.SlotsMove.of_slots {s t : State} (h : t.slots = s.slots) : s.SlotsMove t := fun j hj => by
  have hslot : t.slot j = s.slot j := by simp only [State.slot, h]
  rw [hslot]
  exact .refl hj

theorem State.SlotsMove.trans {s t u : State} (h : s.SlotsMove t) (k : t.SlotsMove u) : s.SlotsMove u :=
  fun j hj => (h j hj).trans (k j (h j hj).answers)

section
variable {s : State}

theorem modSlot_moves {j : SlotId} {f : Slot → Slot} (h : (s.slot j).Answers → (s.slot j).Moves (f (s.slot j))) :
    s.SlotsMove (s.modSlot j f) := by
  intro i hi
  rw [State.slot_modSlot]
  split
  next heq => subst heq; exact h hi
  next => exact .refl hi

/-- A report that is created for a slot in POSTING (R68). -/
theorem pushReport_moves {j : SlotId} {body : ReportBody} (h : (s.slot j).state = .posting) :
    s.SlotsMove (pushReport j body s) := by
  unfold pushReport
  intro i hi
  dsimp only
  rw [State.modPoster_slot]
  refine modSlot_moves (fun hj => ?_) i hi
  exact ⟨rfl, ⟨hj.waiting, fun _ => h⟩, fun _ => ⟨rfl, .inl rfl⟩⟩

/-- A slot that waits passes to POSTING. -/
theorem post_moves {c : SlotId} (h : (s.slot c).wait ≠ .none) (st : Status) :
    s.SlotsMove (s.modSlot c fun x => { x with state := .posting, endStatus := some st, wait := .none }) :=
  modSlot_moves fun hc => ⟨rfl, ⟨(absurd rfl ·), fun _ => rfl⟩, fun hx => absurd (hc.waiting h) hx⟩

theorem completeClose_moves {r : RingId} {c : SlotId} (ended waited : Nat) (h : (s.slot c).wait ≠ .none) :
    s.SlotsMove (completeClose r c ended waited s) := by
  unfold completeClose
  have hpost := post_moves (s := s.modJobRing r fun q => { q with state := .closed, closer := none }) (c := c) h .ok
  have hfirst : s.SlotsMove (s.modJobRing r fun q => { q with state := .closed, closer := none }) := .of_slots rfl
  refine hfirst.trans (hpost.trans (pushReport_moves ?_))
  rw [State.slot_modSlot_self]

theorem countFreed_moves (r : RingId) : s.SlotsMove (countFreed r s) := by
  unfold countFreed
  split
  · exact .of_slots rfl
  next c _ =>
    split
    next hwait =>
      have hbusy : (s.slot c).wait ≠ .none := by rw [hwait]; exact (nomatch ·)
      split
      · exact completeClose_moves _ _ hbusy
      · exact modSlot_moves fun hc => ⟨rfl, ⟨fun _ => hc.waiting hbusy, hc.owing⟩, fun _ => ⟨rfl, .inl rfl⟩⟩
    next => exact .of_slots rfl

/-- A slot that owes a FINAL becomes FREE with it (R67). -/
theorem freed_moves {x : Slot} (h : x.Answers) (howes : x.Owes) : x.Moves { x with state := .free, reports := [] } := by
  have hposting := h.owing howes
  refine ⟨rfl, ⟨fun hwait => ?_, fun ⟨r, hr, _⟩ => (nomatch hr)⟩, fun _ => ⟨rfl, .inr ⟨hposting, rfl⟩⟩⟩
  exact nomatch hposting.symm.trans (h.waiting hwait)

theorem dropHead_moves (n : RingId) : s.SlotsMove (dropHead n s) := by
  cases hqueue : (s.poster n).queue with
  | nil =>
    have hsame : dropHead n s = s := by unfold dropHead; rw [hqueue]
    rw [hsame]
    exact .of_slots rfl
  | cons j q =>
    have hposter : s.SlotsMove (s.modPoster n fun p => { p with queue := q }) := .of_slots rfl
    cases hreports : (s.slot j).reports with
    | nil => rw [dropHead_of_no_report hqueue hreports]; exact hposter
    | cons r others =>
      rw [dropHead_cons hqueue hreports]
      dsimp only
      split
      next hfinal =>
        rw [freeSlot_of_left]
        refine hposter.trans (State.SlotsMove.trans (modSlot_moves fun hj => freed_moves hj ?_) (countFreed_moves _))
        exact ⟨r, by show r ∈ (s.slot j).reports; rw [hreports]; exact List.mem_cons_self .., hfinal⟩
      next =>
        refine hposter.trans (modSlot_moves fun hj => ⟨rfl, ⟨hj.waiting, fun ⟨p, hp, hfinal⟩ => ?_⟩,
          fun _ => ⟨rfl, .inl rfl⟩⟩)
        refine hj.owing ⟨p, ?_, hfinal⟩
        show p ∈ (s.slot j).reports
        rw [hreports]
        exact List.mem_cons_of_mem _ hp

theorem dropHeads_moves (k : Nat) (n : RingId) : ∀ s : State, s.SlotsMove (dropHeads k n s) := by
  induction k with
  | zero => exact fun _ => .of_slots rfl
  | succ k ih => exact fun s => (dropHead_moves n).trans (ih _)

theorem createReport_moves {j : SlotId} {body : ReportBody} (h : (s.slot j).state = .posting) :
    s.SlotsMove (createReport j body s) := by
  unfold createReport
  dsimp only
  split
  · exact (pushReport_moves h).trans (dropHeads_moves _ _ _)
  · exact pushReport_moves h

theorem completeCancel_moves (c : SlotId) : s.SlotsMove (completeCancel c s) := by
  unfold completeCancel
  split
  next ring tag found hwait =>
    refine (post_moves (c := c) (by rw [hwait]; exact (nomatch ·)) .ok).trans (createReport_moves ?_)
    rw [State.slot_modSlot_self]
  · exact .of_slots rfl

/-- A slot that enters POSTING may be freed at once, and the other slots only see reports. -/
theorem enterPosting_moves (j : SlotId) :
    (s.modSlot j fun y => { y with state := .posting, cancelWaiter := none }).SlotsMove (enterPosting j s) := by
  have hposted (m : List TagEntry) (body : ReportBody) : (s.modSlot j fun y =>
      { y with state := .posting, cancelWaiter := none }).SlotsMove (createReport j body
        ((s.setTagMap (s.slot j).ring m).modSlot j fun y => { y with state := .posting, cancelWaiter := none })) := by
    have hmap : (s.modSlot j fun y => { y with state := .posting, cancelWaiter := none }).SlotsMove
        ((s.setTagMap (s.slot j).ring m).modSlot j fun y => { y with state := .posting, cancelWaiter := none }) :=
      .of_slots rfl
    refine hmap.trans (createReport_moves ?_)
    rw [State.slot_modSlot_self]
  unfold enterPosting
  dsimp only
  split
  · exact hposted _ _
  · exact (hposted _ _).trans (completeCancel_moves _)

end

/-! ### What becomes of a job of the ring -/

/-- The slot `y` as a close leaves the slot `x` of a live job: ended, and POSTING with nothing outstanding, or FREE where
its FINAL is discarded (R154). -/
structure Slot.Closed (x y : Slot) : Prop where
  answers : y.Answers
  endStatus : y.endStatus = some (x.endStatus.getD .ringClosed)
  draining : x.outstanding ≠ 0 → y.state = .draining
  posting : x.outstanding = 0 → y.state = .posting ∨ y.state = .free

theorem Slot.Closed.state {x y : Slot} (h : x.Closed y) : y.state = .draining ∨ y.state = .posting ∨ y.state = .free := by
  by_cases hnone : x.outstanding = 0
  · exact .inr (h.posting hnone)
  · exact .inl (h.draining hnone)

theorem Slot.Closed.moves {x y z : Slot} (h : x.Closed y) (k : y.Moves z) : x.Closed z := by
  have hy : y.state ≠ .waiting := by
    rcases h.state with h | h | h <;> rw [h] <;> exact (nomatch ·)
  obtain ⟨kstatus, kstate⟩ := k.kept hy
  refine ⟨k.answers, kstatus.trans h.endStatus, fun hsome => ?_, fun hnone => ?_⟩
  · rcases kstate with hsame | ⟨hposting, -⟩
    · exact hsame.trans (h.draining hsome)
    · exact nomatch (h.draining hsome).symm.trans hposting
  · rcases kstate with hsame | ⟨-, hfree⟩
    · rw [hsame]; exact h.posting hnone
    · exact .inr hfree

section
variable {v w : State} {i j : SlotId}

/-- The end of another job leaves a slot as reports do. -/
theorem endedDrained_of_ne (hslots : w.slots = v.slots) (hne : i ≠ j) (h : (v.slot j).Answers) (st : Status) :
    (v.slot j).Moves (((w.ended i st).drained i).slot j) := by
  have hslot : (w.ended i st).slot j = v.slot j := by
    rw [State.ended, State.slot_modSlot_ne (h := hne.symm)]
    simp only [State.slot, hslots]
  unfold State.drained
  split
  · have hmoves := enterPosting_moves (s := w.ended i st) i j
    rw [State.slot_modSlot_ne (h := hne.symm), hslot] at hmoves
    exact hmoves h
  · rw [hslot]
    exact .refl h

/-- The end of a live job closes its slot. -/
theorem endedDrained_self (hslots : w.slots = v.slots) (h : (v.slot j).Answers)
    (hlive : (v.slot j).state = .pending ∨ (v.slot j).state = .active) :
    (v.slot j).Closed (((w.ended j .ringClosed).drained j).slot j) := by
  have hslot : (w.ended j .ringClosed).slot j =
      { v.slot j with
        state := .draining, startTimer := none, endStatus := some ((v.slot j).endStatus.getD .ringClosed) } := by
    rw [State.ended, State.slot_modSlot_self]
    simp only [State.slot, hslots]
  have hwait : (v.slot j).wait = .none := by
    by_contra hwait
    rcases hlive with hlive | hlive <;> exact nomatch hlive.symm.trans (h.waiting hwait)
  have howes : ¬ (v.slot j).Owes := fun howes => by
    rcases hlive with hlive | hlive <;> exact nomatch hlive.symm.trans (h.owing howes)
  unfold State.drained
  rw [hslot]
  split
  next hnone =>
    have hmoves := enterPosting_moves (s := w.ended j .ringClosed) j j
    rw [State.slot_modSlot_self, hslot] at hmoves
    have hposted := hmoves ⟨fun h => absurd hwait h, fun _ => rfl⟩
    obtain ⟨hstatus, hstate⟩ := hposted.kept (nomatch ·)
    refine ⟨hposted.answers, hstatus, fun hsome => absurd hnone.2 hsome, fun _ => ?_⟩
    exact hstate.imp_right And.right
  next hmore =>
    rw [hslot]
    exact ⟨⟨fun h => absurd hwait h, fun h => absurd h howes⟩, rfl, fun _ => rfl, fun hnone => absurd ⟨rfl, hnone⟩ hmore⟩

end

/-! ### The passes over the slots -/

/-- One slot of a pass: a job of ring `r` in state `k` leaves its lane by `left` and ends (R154). -/
def State.closesSlot (r : RingId) (k : SlotState) (left : State → LaneId → SlotId → State) (v : State) (i : SlotId) :
    State :=
  match (v.slot i).stagingLane with
  | some l =>
    if (v.slot i).state = k ∧ (v.slot i).ring = r then ((left v l i).ended i .ringClosed).drained i else v
  | none => v

theorem closePending_eq (r : RingId) (i : SlotId) (v : State) :
    closePending r i v = v.closesSlot r .pending State.leftQueue i := by
  unfold closePending State.closesSlot
  cases (v.slot i).stagingLane with
  | none => rfl
  | some l => simp only [finishDraining_eq, detachPending_eq]

theorem closeActive_eq (r : RingId) (i : SlotId) (v : State) :
    closeActive r i v = v.closesSlot r .active State.leftLanes i := by
  unfold closeActive State.closesSlot
  cases (v.slot i).stagingLane with
  | none => rfl
  | some l => simp only [finishDraining_eq, detachActive_eq]

theorem leftLanes_slots (v : State) (l : LaneId) (i : SlotId) : (v.leftLanes l i).slots = v.slots := by
  unfold State.leftLanes
  dsimp only
  split <;> rfl

theorem closesSlot_closeFrame {r : RingId} {k : SlotState} {left : State → LaneId → SlotId → State}
    (hleft : ∀ (v : State) l i, v.CloseFrame (left v l i)) (v : State) (i : SlotId) : v.CloseFrame (v.closesSlot r k left i) := by
  unfold State.closesSlot
  split
  · split
    · exact ((hleft v _ i).trans (modSlot_closeFrame i (by exact fun _ => rfl))).trans (drained_closeFrame i)
    · exact .refl v
  · exact .refl v

section
variable {r : RingId} {k : SlotState} {left : State → LaneId → SlotId → State} {x : Slot} {v : State} {i j : SlotId}

/-- A pass leaves every slot but the one it comes to as reports do. -/
theorem closesSlot_of_ne (hleft : ∀ v l i, (left v l i).slots = v.slots) (hne : i ≠ j) (h : (v.slot j).Answers) :
    (v.slot j).Moves ((v.closesSlot r k left i).slot j) := by
  unfold State.closesSlot
  split
  · split
    · exact endedDrained_of_ne (hleft v _ i) hne h _
    · exact .refl h
  · exact .refl h

/-- A slot that is not of the pass stays. -/
theorem closesSlot_self_of_ne (h : (v.slot j).state ≠ k) : v.closesSlot r k left j = v := by
  unfold State.closesSlot
  split
  · exact if_neg fun hends => h hends.1
  · rfl

/-- A pass comes to a job it ends. -/
theorem closesSlot_self (hleft : ∀ v l i, (left v l i).slots = v.slots) (hk : k = .pending ∨ k = .active)
    (h : (v.slot j).Answers) {l : LaneId} (hlane : (v.slot j).stagingLane = some l) (hstate : (v.slot j).state = k)
    (hring : (v.slot j).ring = r) : (v.slot j).Closed ((v.closesSlot r k left j).slot j) := by
  unfold State.closesSlot
  rw [hlane]
  dsimp only
  rw [if_pos ⟨hstate, hring⟩]
  exact endedDrained_self (hleft v l j) h (hstate ▸ hk)

theorem Slot.Moves.live {y : Slot} (h : x.Moves y) (hx : x.state = .pending ∨ x.state = .active) :
    y.state = x.state ∧ y.endStatus = x.endStatus ∧ y.outstanding = x.outstanding := by
  have hwait : x.state ≠ .waiting := by rcases hx with hx | hx <;> rw [hx] <;> exact (nomatch ·)
  obtain ⟨hstatus, hstate⟩ := h.kept hwait
  refine ⟨hstate.resolve_right fun hposting => ?_, hstatus, by rw [h.rest]⟩
  rcases hx with hx | hx <;> exact nomatch hx.symm.trans hposting.1

/-- What closes the slot that reports left closes the slot. -/
theorem Slot.Moves.closed {y z : Slot} (h : x.Moves y) (hx : x.state = .pending ∨ x.state = .active) (k : y.Closed z) :
    x.Closed z := by
  obtain ⟨-, hstatus, hout⟩ := h.live hx
  exact ⟨k.answers, hstatus ▸ k.endStatus, hout ▸ k.draining, hout ▸ k.posting⟩

theorem closesSlot_of_closed (hleft : ∀ v l i, (left v l i).slots = v.slots) (hk : k = .pending ∨ k = .active)
    (h : x.Closed (v.slot j)) (i : SlotId) : x.Closed ((v.closesSlot r k left i).slot j) := by
  by_cases hij : i = j
  · subst hij
    rw [closesSlot_self_of_ne]
    · exact h
    · intro hstate
      rcases hk with rfl | rfl <;> rcases h.state with h | h | h <;> exact nomatch h.symm.trans hstate
  · exact h.moves (closesSlot_of_ne hleft hij h.answers)

/-- A slot of a pass: a live job it has not come to is as reports leave it, or it is closed. -/
theorem closesSlot_keeps (hleft : ∀ v l i, (left v l i).slots = v.slots) (hk : k = .pending ∨ k = .active)
    (hx : x.state = .pending ∨ x.state = .active) (hring : x.ring = r) {l : LaneId} (hlane : x.stagingLane = some l)
    (h : x.Moves (v.slot j) ∨ x.Closed (v.slot j)) (i : SlotId) :
    x.Moves ((v.closesSlot r k left i).slot j) ∧ (i = j → x.state ≠ k) ∨ x.Closed ((v.closesSlot r k left i).slot j) := by
  rcases h with h | h
  · by_cases hij : i = j
    · subst hij
      obtain ⟨hstate, -, -⟩ := h.live hx
      by_cases hk' : x.state = k
      · exact .inr (h.closed hx (closesSlot_self hleft hk h.answers (by rw [h.rest]; exact hlane) (hstate.trans hk')
          (by rw [h.rest]; exact hring)))
      · rw [closesSlot_self_of_ne (hstate ▸ hk')]
        exact .inl ⟨h, fun _ => hk'⟩
    · exact .inl ⟨h.trans (closesSlot_of_ne hleft hij h.answers), fun heq => absurd heq hij⟩
  · exact .inr (closesSlot_of_closed hleft hk h i)

theorem closesSlots_of_closed (hleft : ∀ v l i, (left v l i).slots = v.slots) (hk : k = .pending ∨ k = .active)
    (is : List SlotId) : ∀ {v : State}, x.Closed (v.slot j) →
      x.Closed ((is.foldl (State.closesSlot r k left) v).slot j) := by
  induction is with
  | nil => exact fun h => h
  | cons i is ih => exact fun h => ih (closesSlot_of_closed hleft hk h i)

/-- A pass leaves a live job as reports do, or closes it; it closes each job in the state of the pass. -/
theorem closesSlots (hleft : ∀ v l i, (left v l i).slots = v.slots) (hk : k = .pending ∨ k = .active)
    (hx : x.state = .pending ∨ x.state = .active) (hring : x.ring = r) {l : LaneId} (hlane : x.stagingLane = some l)
    (is : List SlotId) : ∀ {v : State}, x.Moves (v.slot j) ∨ x.Closed (v.slot j) →
      x.Moves ((is.foldl (State.closesSlot r k left) v).slot j) ∧ (j ∈ is → x.state ≠ k) ∨
        x.Closed ((is.foldl (State.closesSlot r k left) v).slot j) := by
  induction is with
  | nil => exact fun {v} h => h.imp_left fun h => ⟨h, (nomatch ·)⟩
  | cons i is ih =>
    intro v h
    rcases closesSlot_keeps hleft hk hx hring hlane h i with ⟨hmoves, hi⟩ | hclosed
    · refine (ih (.inl hmoves)).imp_left fun ⟨hrest, his⟩ => ⟨hrest, fun hj => ?_⟩
      exact (List.mem_cons.1 hj).elim (fun heq => hi heq.symm) his
    · exact .inr (closesSlots_of_closed hleft hk is hclosed)

end

/-! ### Claims and changed lanes -/

/-- The claims of ring `r` are released (R155). -/
def Lane.released (r : RingId) (x : Lane) : Lane := { x with owner := if x.owner = some r then none else x.owner }

theorem released_hold (r : RingId) (x : Lane) : (x.released r).hold = x.hold := rfl

theorem released_owner (r : RingId) (x : Lane) :
    (x.released r).owner = if x.owner = some r then none else x.owner := rfl

theorem released_released (r : RingId) (x : Lane) : (x.released r).released r = x.released r := by
  unfold Lane.released
  split <;> simp_all

/-- Every claim of ring `r` is released, and nothing else changes (R155). -/
theorem releaseClaims_eq (r : RingId) (s : State) :
    releaseClaims r s = { s with lanes := Vector.ofFn fun l : Fin 16 => (s.lane l).released r } := by
  have hstep (u : State) (m : LaneId) :
      (if (u.lane m).owner = some r then u.modLane m fun x => { x with owner := none } else u) =
        u.modLane m (Lane.released r) := by
    by_cases h : (u.lane m).owner = some r
    · rw [if_pos h]
      exact modLane_congr (by rw [Lane.released, if_pos h])
    · rw [if_neg h]
      refine (modLane_eq_self u m).symm.trans (modLane_congr ?_)
      rw [Lane.released, if_neg h]
  have hfold (ms : List LaneId) : ∀ u : State,
      (ms.foldl (fun u m => u.modLane m (Lane.released r)) u =
        { u with lanes := (ms.foldl (fun u m => u.modLane m (Lane.released r)) u).lanes }) ∧
      ∀ l, (ms.foldl (fun u m => u.modLane m (Lane.released r)) u).lane l =
        if l ∈ ms then (u.lane l).released r else u.lane l := by
    induction ms with
    | nil => exact fun u => ⟨rfl, fun l => by simp⟩
    | cons m ms ih =>
      intro u
      obtain ⟨hrest, hlanes⟩ := ih (u.modLane m (Lane.released r))
      refine ⟨hrest, fun l => (hlanes l).trans ?_⟩
      rw [State.lane_modLane]
      by_cases hlm : l = m
      · subst hlm
        simp [released_released]
      · simp [hlm]
  unfold releaseClaims
  simp only [hstep]
  obtain ⟨hrest, hlanes⟩ := hfold allLanes s
  rw [hrest]
  refine congrArg (fun lanes : Vector Lane 16 => { s with lanes := lanes }) (Vector.ext fun i hi => ?_)
  rw [Vector.getElem_ofFn]
  exact (hlanes ⟨i, hi⟩).trans (if_pos (List.mem_finRange _))

/-- A lane that acts leaves every slot that is not PENDING. -/
theorem laneAct_slot_of_not_pending {s : State} (hs : s.JobsPlaced) {j : SlotId} (hj : (s.slot j).state ≠ .pending)
    (l : LaneId) : (laneAct l s).slot j = s.slot j := by
  unfold laneAct
  split
  · split
    · rfl
    next h rest hqueue =>
      split
      · split <;> rfl
      · have hne : j ≠ h := by
          rintro rfl
          exact hj (hs.queued l j (by rw [hqueue]; exact List.mem_cons_self ..)).1
        unfold activateHead
        rw [hqueue]
        dsimp only
        rw [State.slot_modSlot_ne (h := hne)]
        rfl
  · split
    · split
      · rfl
      · rw [sendPlaceOpen_eq]
        rfl
    · rfl

theorem laneActs_slot_of_not_pending {j : SlotId} (ls : List LaneId) : ∀ {s : State}, s.JobsPlaced →
    (s.slot j).state ≠ .pending → (ls.foldl (fun u l => laneAct l u) s).slot j = s.slot j := by
  induction ls with
  | nil => exact fun _ _ => rfl
  | cons l ls ih =>
    intro s hs hj
    have hslot := laneAct_slot_of_not_pending hs hj l
    exact (ih (laneAct_keepsPlaces l hs).placed (by rw [hslot]; exact hj)).trans hslot

/-! ### The work of a close -/

/-- The state in which the jobs of ring `r` have ended and no lane has acted yet (R154). -/
def State.closedJobs (s : State) (r : RingId) : State :=
  allSlots.foldl (State.closesSlot r .active State.leftLanes)
    (allSlots.foldl (State.closesSlot r .pending State.leftQueue)
      (s.modJobRing r fun q => { q with state := .closing }))

/-- The state in which the claims of ring `r` are released too (R155). -/
def State.closedClaims (s : State) (r : RingId) : State :=
  { s.closedJobs r with lanes := Vector.ofFn fun l : Fin 16 => ((s.closedJobs r).lane l).released r }

theorem closedClaims_slot (s : State) (r : RingId) (j : SlotId) :
    (s.closedClaims r).slot j = (s.closedJobs r).slot j :=
  have hlanes (u : State) (lanes : Vector Lane 16) : ({ u with lanes := lanes } : State).slot j = u.slot j := rfl
  hlanes _ _

/-- The lanes that the close has changed act on their new states (R155). -/
def State.closedRing (s : State) (r : RingId) : State :=
  (allLanes.filter fun l =>
    decide ((s.modJobRing r fun q => { q with state := .closing }).lane l ≠ (s.closedClaims r).lane l)).foldl
      (fun u l => laneAct l u) (s.closedClaims r)

theorem closedJobs_eq (s : State) (r : RingId) :
    allSlots.foldl (fun s j => closeActive r j s)
      (allSlots.foldl (fun s j => closePending r j s) (s.modJobRing r fun q => { q with state := .closing })) =
      s.closedJobs r := by
  simp only [closePending_eq, closeActive_eq]
  rfl

theorem closeRingWork_eq (s : State) (r : RingId) : closeRingWork r s = s.closedRing r := by
  unfold closeRingWork changedLanesAct
  dsimp only
  rw [closedJobs_eq, releaseClaims_eq]
  refine congrArg (fun ls : List LaneId => ls.foldl (fun u l => laneAct l u) (s.closedClaims r))
    (List.filter_congr fun l _ => ?_)
  rw [decide_not]
  rfl

theorem closedJobs_closeFrame (s : State) (r : RingId) :
    (s.modJobRing r fun q => { q with state := .closing }).CloseFrame (s.closedJobs r) :=
  State.CloseFrame.trans
    (.foldl _ (closesSlot_closeFrame fun v l i => leftQueue_closeFrame (s := v) l i) _ _)
    (.foldl _ (closesSlot_closeFrame fun v l i => leftLanes_closeFrame (s := v) l i) _ _)

theorem closedRing_closeFrame (s : State) (r : RingId) : (s.closedClaims r).CloseFrame (s.closedRing r) :=
  .foldl _ (fun u l => laneAct_closeFrame (s := u) l) _ _

theorem closedClaims_placed {s : State} (hs : s.JobsPlaced) (r : RingId) : (s.closedClaims r).JobsPlaced := by
  have hclosing := modJobRing_keepsPlaces (s := s) r fun q => { q with state := .closing }
  have hjobs : s.KeepsPlaces (s.closedJobs r) := by
    rw [← closedJobs_eq]
    exact (hclosing.trans (.foldl _ (fun s j => closePending_keepsPlaces r j) _ _)).trans
      (.foldl _ (fun s j => closeActive_keepsPlaces r j) _ _)
  have hclaims := hjobs.trans (releaseClaims_keepsPlaces r)
  rw [releaseClaims_eq] at hclaims
  exact (hclaims hs).placed

/-- A live job of the ring is closed, and stands on no lane (R154). -/
theorem closedRing_closes {s : State} (hs : s.JobsPlaced) {r : RingId} {j : SlotId} (hring : (s.slot j).ring = r)
    (hstate : (s.slot j).state = .pending ∨ (s.slot j).state = .active) :
    (s.slot j).Closed ((s.closedRing r).slot j) ∧
      ∀ l : LaneId, j ∉ ((s.closedRing r).lane l).queue ∧ ((s.closedRing r).lane l).active ≠ some j := by
  obtain ⟨l, hlane⟩ : ∃ l, (s.slot j).stagingLane = some l := by
    rcases hstate with h | h
    · obtain ⟨l, hlane, -⟩ := hs.pending j h; exact ⟨l, hlane⟩
    · obtain ⟨l, hlane, -⟩ := hs.active j h; exact ⟨l, hlane⟩
  have hclosed : (s.slot j).Closed ((s.closedJobs r).slot j) := by
    unfold State.closedJobs
    have hmem : j ∈ allSlots := List.mem_finRange j
    have hfirst := closesSlots (k := .pending) (left := State.leftQueue) (j := j) (fun _ _ _ => rfl) (.inl rfl) hstate
      hring hlane allSlots (v := s.modJobRing r fun q => { q with state := .closing }) (.inl (.refl (hs.answers j)))
    have hsecond := closesSlots (k := .active) (left := State.leftLanes) (j := j) leftLanes_slots (.inr rfl) hstate
      hring hlane allSlots (hfirst.imp_left And.left)
    rcases hsecond with ⟨-, hactive⟩ | hclosed
    · have hpending := hstate.resolve_right (hactive hmem)
      exact closesSlots_of_closed leftLanes_slots (.inr rfl) _
        (hfirst.resolve_left fun ⟨_, hnot⟩ => hnot hmem hpending)
    · exact hclosed
  have hplaced := closedClaims_placed hs r
  rw [← closedClaims_slot] at hclosed
  have hslot : (s.closedRing r).slot j = (s.closedClaims r).slot j :=
    laneActs_slot_of_not_pending _ hplaced (by
      rcases hclosed.state with h | h | h <;> rw [h] <;> exact (nomatch ·))
  rw [hslot]
  refine ⟨hclosed, fun l => ?_⟩
  have hu : (s.closedRing r).JobsPlaced := by
    rw [← closeRingWork_eq]
    exact (closeRingWork_keepsPlaces r hs).placed
  rw [← hslot] at hclosed
  refine ⟨fun hq => ?_, fun ha => ?_⟩
  · have := (hu.queued l j hq).1
    rcases hclosed.state with h | h | h <;> exact nomatch h.symm.trans this
  · have := (hu.running l j ha).1
    rcases hclosed.state with h | h | h <;> exact nomatch h.symm.trans this

theorem closedClaims_lane (s : State) (r : RingId) (l : LaneId) :
    (s.closedClaims r).lane l = ((s.closedJobs r).lane l).released r := by
  unfold State.closedClaims State.lane
  exact Vector.getElem_ofFn ..

/-- The ring of a close stays CLOSING while its work is done, unless another close waits for it (R154). -/
theorem closedRing_jobRing {s : State} {r : RingId} (h : (s.jobRing r).closer = none) :
    (s.closedRing r).jobRing r = { s.jobRing r with state := .closing } := by
  have hclosing := State.jobRing_modJobRing_self s r fun q => { q with state := .closing }
  have hjobs := (closedJobs_closeFrame s r).jobRing r (by rw [hclosing]; exact h)
  have hclaims : (s.closedClaims r).jobRing r = (s.closedJobs r).jobRing r :=
    have hlanes (u : State) (lanes : Vector Lane 16) : ({ u with lanes := lanes } : State).jobRing r = u.jobRing r := rfl
    hlanes _ _
  rw [(closedRing_closeFrame s r).jobRing r (by rw [hclaims, hjobs, hclosing]; exact h), hclaims, hjobs, hclosing]

/-- Hold flags stay and the ring's claims are released (R155). -/
theorem closedRing_lane (s : State) (r : RingId) (l : LaneId) :
    ((s.closedRing r).lane l).hold = (s.lane l).hold ∧
      ((s.closedRing r).lane l).owner = if (s.lane l).owner = some r then none else (s.lane l).owner := by
  have hjobs := closedJobs_closeFrame s r
  rw [(closedRing_closeFrame s r).hold, (closedRing_closeFrame s r).owner, closedClaims_lane, released_hold,
    released_owner, hjobs.hold, hjobs.owner]
  exact ⟨rfl, rfl⟩

theorem closedRing_ring (s : State) (r : RingId) (j : SlotId) : ((s.closedRing r).slot j).ring = (s.slot j).ring := by
  rw [(closedRing_closeFrame s r).ring, closedClaims_slot, (closedJobs_closeFrame s r).ring]
  rfl

/-- The tests of CLOSE_JOB_RING (R154). -/
theorem closeJobRingCheck_eq (e : CloseRingEntry) (d : State) :
    closeJobRingCheck e d = refusalOr (Fin.ofNat 8 e.id.toNat) (firstRefusal
      [(decide (1 ≤ e.id.toNat) && decide (e.id.toNat ≤ 7), .badField),
       ((d.jobRing (Fin.ofNat 8 e.id.toNat)).state == .open || (d.jobRing (Fin.ofNat 8 e.id.toNat)).state == .faulted,
        .noRing)]) := by
  unfold closeJobRingCheck
  refine ioRingCheck_cons _ _ fun _ => ?_
  rw [firstRefusal_cons]
  simp only [Bool.or_eq_true, beq_iff_eq]
  split <;> rfl

/-- A close that waits for nothing becomes POSTING with its FINAL on report ring 0 (R156). -/
theorem completeClose_eq {s : State} {c : SlotId} (hring : (s.slot c).ring = 0) (r : RingId) (ended waited : Nat) :
    completeClose r c ended waited s =
      ((s.modJobRing r fun q => { q with state := .closed, closer := none }).modSlot c fun x =>
        { x with
          state := .posting
          endStatus := some .ok
          wait := .none
          reports := x.reports ++
            [{ kindCode := x.kindCode
               tag := x.tag
               ring := 0
               body := .final .ok (.closeJobRing (BitVec.ofNat 8 r.val) (BitVec.ofNat 8 ended) (BitVec.ofNat 16 waited)
                (headField s r)) }] }).modPoster 0 fun p => { p with queue := p.queue ++ [c] } := by
  unfold completeClose pushReport
  dsimp only
  have hring' : ((s.modJobRing r fun q => { q with state := .closed, closer := none }).slot c).ring = 0 := hring
  rw [State.slot_modSlot_self, State.modSlot_modSlot]
  dsimp only
  rw [hring']
  exact congrArg (fun u : State => u.modPoster 0 fun p => { p with queue := p.queue ++ [c] }) (modSlot_congr rfl)

/-- The jobs stand where their slots say when the entry is delivered (R115). -/
theorem State.JobsPlaced.delivered {s : State} (hs : s.JobsPlaced) {f : FetchRecord} (h : s.Delivers f) (e : Entry) :
    (s.delivered f e).JobsPlaced := by
  obtain ⟨-, hfetch, -, -⟩ := h
  have harrived := ((hs.arrived hfetch).keep (modJobRing_keepsPlaces f.ring fun q =>
    { q with head := (q.head + 1) % q.size })).keep (modSlot_keepsPlaces_of_same (j := f.slot) (f := fun x =>
      { x with kindCode := e.kindCode, tag := e.tag, job := e.job, request := e.request }) ⟨rfl, rfl, rfl, id, id⟩)
  exact (keepsPlaces_of_same (by rfl) (by rfl) (by rfl) harrived.placed).placed

/-- Settles O33: the work of the close is the stated fold, and an invariant of its steps says what becomes of each
job. -/
theorem closingAJobRingEndsItsJobs : Obligations.ClosingAJobRingEndsItsJobs := by
  unfold Obligations.ClosingAJobRingEndsItsJobs
  intro e f s h hring htag d r tests closing ends unqueued idle released u ended owed
  have hexec : exec (.closeJobRing e) s = .next (settle (closeJobRing e f.slot d)) :=
    fetched_control (zeros := .closeJobRing 0 0 0 0) h hring htag
  rw [hexec, closeJobRing, show closeJobRingCheck e d = refusalOr r (firstRefusal tests) from closeJobRingCheck_eq e d]
  cases htests : firstRefusal tests with
  | some st => rfl
  | none =>
    have hu : closeRingWork r d = u := closeRingWork_eq d r
    have hid : BitVec.ofNat 8 r.val = e.id := by
      have hrange := firstRefusal_eq_none_iff.1 htests _ (List.mem_cons_self ..)
      have hle : e.id.toNat ≤ 7 := of_decide_eq_true (Bool.and_eq_true_iff.1 hrange).2
      show BitVec.ofNat 8 (e.id.toNat % 8) = e.id
      rw [Nat.mod_eq_of_lt (by omega), BitVec.ofNat_toNat, BitVec.setWidth_eq]
    dsimp only [refusalOr]
    rw [hu]
    refine ⟨fun hcloser => ?_, fun l => ?_, fun hs j hj hstate => ?_, fun hnone hslot => ?_, fun hsome => ?_⟩
    · show ((d.closedRing r).jobRing r).state = _
      rw [closedRing_jobRing hcloser]
    · exact closedRing_lane d r l
    · obtain ⟨hclosed, hleft⟩ := closedRing_closes (hs.delivered h _) hj hstate
      exact ⟨hclosed.endStatus, hclosed.draining, hclosed.posting, hleft⟩
    · have hring : (u.slot f.slot).ring = 0 := (closedRing_ring d r f.slot).trans hslot
      rw [if_pos (show owedSlots r u = 0 from hnone), completeClose_eq hring, hid]
      rfl
    · rw [if_neg (show owedSlots r u ≠ 0 from hsome)]
      rfl

end Sys2Proof.Machine
end

section
/-! SUPPORT. The bytes of chapter 11: an entry is read back from the runs of bits its fields fill, and each field of a
record, a report and an event report is read at its offset (O60). -/

namespace Sys2Proof.Machine

-- One proof at a time: every thread reserves memory of its own, and the check bounds the whole.
set_option Elab.async false

/-! ### Bytes that agree on the runs of the fields -/

/-- Two entries hold the same bits in every run. -/
def SameRuns (runs : List (Nat × Nat)) (b' b : EntryBytes) : Prop :=
  ∀ run ∈ runs, b'.extractLsb' run.1 run.2 = b.extractLsb' run.1 run.2

/-- One of the runs holds the `k` bits from `o`. -/
def covers (runs : List (Nat × Nat)) (o k : Nat) : Bool :=
  runs.any fun run => decide (run.1 ≤ o) && decide (o + k ≤ run.1 + run.2)

theorem SameRuns.bit {runs : List (Nat × Nat)} {b' b : EntryBytes} (h : SameRuns runs b' b) {o : Nat}
    (hc : covers runs o 1 = true) : b'.getLsbD o = b.getLsbD o := by
  obtain ⟨⟨start, length⟩, hrun, hfits⟩ := List.any_eq_true.1 hc
  simp only [Bool.and_eq_true, decide_eq_true_eq] at hfits
  have hbit := congrArg (fun x => BitVec.getLsbD x (o - start)) (h _ hrun)
  have hin : o - start < length := by omega
  have hat : start + (o - start) = o := by omega
  simpa [BitVec.getLsbD_extractLsb', hin, hat] using hbit

theorem covers_bit {runs : List (Nat × Nat)} {o k i : Nat} (hc : covers runs o k = true) (hi : i < k) :
    covers runs (o + i) 1 = true := by
  obtain ⟨run, hrun, hfits⟩ := List.any_eq_true.1 hc
  simp only [Bool.and_eq_true, decide_eq_true_eq] at hfits
  refine List.any_eq_true.2 ⟨run, hrun, ?_⟩
  simp only [Bool.and_eq_true, decide_eq_true_eq]
  omega

theorem SameRuns.field {runs : List (Nat × Nat)} {b' b : EntryBytes} (h : SameRuns runs b' b) {o k : Nat}
    (hc : covers runs o k = true) : b'.extractLsb' o k = b.extractLsb' o k := by
  apply BitVec.eq_of_getLsbD_eq
  intro i hi
  simp only [BitVec.getLsbD_extractLsb', h.bit (covers_bit hc hi)]

/-! ### Each entry is read back from its runs -/

theorem kindOfCode_kindCode (k : EntryKind) : kindOfCode (kindCode k) = some k := by
  cases k <;> rfl

theorem optionBits_adjoin (e : MeasEntry) : (optionBits e).getLsbD 0 = e.adjoin :=
  (bit_low 0 _ _ Nat.one_pos).trans (BitVec.getLsbD_ofBool _ _)

theorem optionBits_bandEnable (e : MeasEntry) : (optionBits e).getLsbD 1 = e.bandEnable :=
  calc (optionBits e).getLsbD 1
    _ = (0#5 ++ BitVec.ofBool e.stopOnBand ++ BitVec.ofBool e.bandEnable).getLsbD 0 := bit_skip 1 _ _ le_rfl
    _ = (BitVec.ofBool e.bandEnable).getLsbD 0 := bit_low 0 _ _ Nat.one_pos
    _ = e.bandEnable := BitVec.getLsbD_ofBool _ _

theorem optionBits_stopOnBand (e : MeasEntry) : (optionBits e).getLsbD 2 = e.stopOnBand :=
  calc (optionBits e).getLsbD 2
    _ = (0#5 ++ BitVec.ofBool e.stopOnBand ++ BitVec.ofBool e.bandEnable).getLsbD 1 := bit_skip 2 _ _ (by decide)
    _ = (0#5 ++ BitVec.ofBool e.stopOnBand).getLsbD 0 := bit_skip 1 _ _ le_rfl
    _ = (BitVec.ofBool e.stopOnBand).getLsbD 0 := bit_low 0 _ _ Nat.one_pos
    _ = e.stopOnBand := BitVec.getLsbD_ofBool _ _

theorem measurement_readBack {code : Byte} {e : MeasEntry} {b' : EntryBytes}
    (h : SameRuns fieldRuns.measurementRuns b' (encodeMeasurement code e)) :
    b'.byte 0 = code ∧ decodeMeasurement b' = e := by
  constructor
  · simp (disch := decide) only [EntryBytes.byte, h.field]
    exact extract_low _ _
  · simp (disch := decide) only [decodeMeasurement, EntryBytes.byte, EntryBytes.half, EntryBytes.word, EntryBytes.quad,
      h.field, h.bit]
    simp only [encodeMeasurement, extract_skip, extract_low, bit_skip, bit_low, optionBits_adjoin,
      optionBits_bandEnable, optionBits_stopOnBand, Nat.reduceMul, Nat.reduceSub, Nat.reduceLeDiff, Nat.reduceLT]

theorem addBuffer_readBack {e : AddBufferEntry} {b' : EntryBytes}
    (h : SameRuns [(0, 8), (16, 112)] b' (encodeAddBuffer e)) :
    b'.byte 0 = kindCode .addBuffer ∧ decodeAddBuffer b' = e := by
  constructor
  · simp (disch := decide) only [EntryBytes.byte, h.field]
    exact extract_low _ _
  · simp (disch := decide) only [decodeAddBuffer, EntryBytes.half, EntryBytes.quad, h.field]
    simp only [encodeAddBuffer, extract_skip, extract_low, Nat.reduceMul, Nat.reduceSub, Nat.reduceLeDiff]

theorem openReportRing_readBack {e : OpenReportRingEntry} {b' : EntryBytes}
    (h : SameRuns [(0, 8), (16, 64), (128, 64)] b' (encodeOpenReportRing e)) :
    b'.byte 0 = kindCode .openReportRing ∧ decodeOpenReportRing b' = e := by
  constructor
  · simp (disch := decide) only [EntryBytes.byte, h.field]
    exact extract_low _ _
  · simp (disch := decide) only [decodeOpenReportRing, EntryBytes.byte, EntryBytes.half, EntryBytes.quad, h.field]
    simp only [encodeOpenReportRing, extract_skip, extract_low, Nat.reduceMul, Nat.reduceSub, Nat.reduceLeDiff]

theorem openJobRing_readBack {e : OpenJobRingEntry} {b' : EntryBytes}
    (h : SameRuns [(0, 8), (16, 40), (64, 16), (128, 64)] b' (encodeOpenJobRing e)) :
    b'.byte 0 = kindCode .openJobRing ∧ decodeOpenJobRing b' = e := by
  constructor
  · simp (disch := decide) only [EntryBytes.byte, h.field]
    exact extract_low _ _
  · simp (disch := decide) only [decodeOpenJobRing, EntryBytes.byte, EntryBytes.half, EntryBytes.quad, h.field]
    simp only [encodeOpenJobRing, extract_skip, extract_low, Nat.reduceMul, Nat.reduceSub, Nat.reduceLeDiff]

theorem closeRing_readBack {code : Byte} {e : CloseRingEntry} {b' : EntryBytes}
    (h : SameRuns [(0, 8), (16, 24)] b' (encodeCloseRing code e)) :
    b'.byte 0 = code ∧ decodeCloseRing b' = e := by
  constructor
  · simp (disch := decide) only [EntryBytes.byte, h.field]
    exact extract_low _ _
  · simp (disch := decide) only [decodeCloseRing, EntryBytes.byte, EntryBytes.half, h.field]
    simp only [encodeCloseRing, extract_skip, extract_low, Nat.reduceMul, Nat.reduceSub, Nat.reduceLeDiff]

theorem setLane_readBack {e : SetLaneEntry} {b' : EntryBytes}
    (h : SameRuns [(0, 8), (16, 40)] b' (encodeSetLane e)) :
    b'.byte 0 = kindCode .setLane ∧ decodeSetLane b' = e := by
  constructor
  · simp (disch := decide) only [EntryBytes.byte, h.field]
    exact extract_low _ _
  · simp (disch := decide) only [decodeSetLane, EntryBytes.byte, EntryBytes.half, h.field]
    simp only [encodeSetLane, extract_skip, extract_low, Nat.reduceMul, Nat.reduceSub, Nat.reduceLeDiff]

theorem claimLane_readBack {e : ClaimLaneEntry} {b' : EntryBytes}
    (h : SameRuns [(0, 8), (16, 32)] b' (encodeClaimLane e)) :
    b'.byte 0 = kindCode .claimLane ∧ decodeClaimLane b' = e := by
  constructor
  · simp (disch := decide) only [EntryBytes.byte, h.field]
    exact extract_low _ _
  · simp (disch := decide) only [decodeClaimLane, EntryBytes.byte, EntryBytes.half, h.field]
    simp only [encodeClaimLane, extract_skip, extract_low, Nat.reduceMul, Nat.reduceSub, Nat.reduceLeDiff]

theorem lane_readBack {code : Byte} {e : LaneEntry} {b' : EntryBytes}
    (h : SameRuns [(0, 8), (16, 24)] b' (encodeLane code e)) :
    b'.byte 0 = code ∧ decodeLane b' = e := by
  constructor
  · simp (disch := decide) only [EntryBytes.byte, h.field]
    exact extract_low _ _
  · simp (disch := decide) only [decodeLane, EntryBytes.byte, EntryBytes.half, h.field]
    simp only [encodeLane, extract_skip, extract_low, Nat.reduceMul, Nat.reduceSub, Nat.reduceLeDiff]

theorem jobName_readBack {code : Byte} {e : JobNameEntry} {b' : EntryBytes}
    (h : SameRuns [(0, 8), (16, 24), (48, 16)] b' (encodeJobName code e)) :
    b'.byte 0 = code ∧ decodeJobName b' = e := by
  constructor
  · simp (disch := decide) only [EntryBytes.byte, h.field]
    exact extract_low _ _
  · simp (disch := decide) only [decodeJobName, EntryBytes.byte, EntryBytes.half, h.field]
    simp only [encodeJobName, extract_skip, extract_low, Nat.reduceMul, Nat.reduceSub, Nat.reduceLeDiff]

theorem undefinedKind_readBack {code : Byte} {tag : Tag} {b' : EntryBytes}
    (h : SameRuns [(0, 8), (16, 16)] b' (0#480 ++ tag ++ 0#8 ++ code)) : b'.byte 0 = code ∧ b'.half 2 = tag := by
  constructor
  · simp (disch := decide) only [EntryBytes.byte, h.field]
    exact extract_low _ _
  · simp (disch := decide) only [EntryBytes.half, h.field]
    simp only [extract_skip, extract_low, Nat.reduceMul, Nat.reduceSub, Nat.reduceLeDiff]

/-- Reserved bits are not read: any bytes that hold the command's fields are read as it. -/
theorem decodeEntry_of_sameRuns {c : Instr} {b b' : EntryBytes} (hwf : c.wf = true) (hb : encodeEntry c = some b)
    (h : SameRuns (fieldRuns c) b' b) : decodeEntry b' = c := by
  cases c with
  | width e | cycles e | span e | tally e | quiet e =>
    cases hb
    obtain ⟨hcode, hfields⟩ := measurement_readBack h
    simp only [decodeEntry, hcode, kindOfCode_kindCode, hfields]
  | addBuffer e =>
    cases hb
    obtain ⟨hcode, hfields⟩ := addBuffer_readBack h
    simp only [decodeEntry, hcode, kindOfCode_kindCode, hfields]
  | openReportRing e =>
    cases hb
    obtain ⟨hcode, hfields⟩ := openReportRing_readBack h
    simp only [decodeEntry, hcode, kindOfCode_kindCode, hfields]
  | openJobRing e =>
    cases hb
    obtain ⟨hcode, hfields⟩ := openJobRing_readBack h
    simp only [decodeEntry, hcode, kindOfCode_kindCode, hfields]
  | closeReportRing e | closeJobRing e =>
    cases hb
    obtain ⟨hcode, hfields⟩ := closeRing_readBack h
    simp only [decodeEntry, hcode, kindOfCode_kindCode, hfields]
  | setLane e =>
    cases hb
    obtain ⟨hcode, hfields⟩ := setLane_readBack h
    simp only [decodeEntry, hcode, kindOfCode_kindCode, hfields]
  | claimLane e =>
    cases hb
    obtain ⟨hcode, hfields⟩ := claimLane_readBack h
    simp only [decodeEntry, hcode, kindOfCode_kindCode, hfields]
  | holdLane e | releaseLane e =>
    cases hb
    obtain ⟨hcode, hfields⟩ := lane_readBack h
    simp only [decodeEntry, hcode, kindOfCode_kindCode, hfields]
  | cancelJob e | peekJob e =>
    cases hb
    obtain ⟨hcode, hfields⟩ := jobName_readBack h
    simp only [decodeEntry, hcode, kindOfCode_kindCode, hfields]
  | undefinedKindEntry code tag =>
    cases hb
    obtain ⟨hcode, htag⟩ := undefinedKind_readBack h
    have hnone : kindOfCode code = none := Option.isNone_iff_eq_none.1 hwf
    simp only [decodeEntry, hcode, hnone, htag]
  | _ => cases hb

/-! ### Records -/

/-- A field inside the lowest one is read from that. -/
theorem extract_inside {n m : Nat} (o k : Nat) (x : BitVec n) (c : BitVec m) (h : o + k ≤ m) :
    BitVec.extractLsb' o k (x ++ c) = BitVec.extractLsb' o k c := by
  apply BitVec.eq_of_getLsbD_eq
  intro i hi
  have hlow : o + i < m := by omega
  simp only [BitVec.getLsbD_extractLsb', bit_low _ _ _ hlow]

/-- The bits of the flags (section 11.2); those above AFTER_LOSS are 0. -/
theorem flagBits_bits (f : MeasFlags) (afterLoss : Bool) :
    (flagBits f afterLoss).getLsbD 0 = f.overflow ∧ (flagBits f afterLoss).getLsbD 1 = f.bandLow ∧
    (flagBits f afterLoss).getLsbD 2 = f.bandHigh ∧ (flagBits f afterLoss).getLsbD 3 = f.edgeSeen ∧
    (flagBits f afterLoss).getLsbD 4 = afterLoss ∧ (0#8 ++ flagBits f afterLoss).extractLsb' 5 11 = 0 := by
  obtain ⟨overflow, bandLow, bandHigh, edgeSeen⟩ := f
  revert overflow bandLow bandHigh edgeSeen afterLoss
  decide

/-- `flags_seen` has no AFTER_LOSS: its upper half is 0. -/
theorem flagBits_upper (f : MeasFlags) : (flagBits f false).extractLsb' 4 4 = 0 := by
  obtain ⟨overflow, bandLow, bandHigh, edgeSeen⟩ := f
  revert overflow bandLow bandHigh edgeSeen
  decide

theorem recordBytes_bytes (r : ResultRecord) :
    let b := recordBytes r
    b.extractLsb' 0 64 = r.index ∧ b.extractLsb' 64 32 = r.value ∧ b.extractLsb' 96 32 = r.aux ∧
    b.extractLsb' 128 48 = r.startTs ∧ b.extractLsb' 176 16 = r.lostBefore ∧ b.extractLsb' 192 48 = r.endTs ∧
    b.getLsbD 240 = r.flags.overflow ∧ b.getLsbD 241 = r.flags.bandLow ∧ b.getLsbD 242 = r.flags.bandHigh ∧
    b.getLsbD 243 = r.flags.edgeSeen ∧ b.getLsbD 244 = r.afterLoss ∧ b.extractLsb' 245 11 = 0 := by
  obtain ⟨hoverflow, hlow, hhigh, hedge, hloss, hupper⟩ := flagBits_bits r.flags r.afterLoss
  simp only [recordBytes, extract_skip, extract_low, bit_skip, bit_low, hoverflow, hlow, hhigh, hedge, hloss, hupper,
    Nat.reduceSub, Nat.reduceLeDiff, Nat.reduceLT, and_self]

/-! ### Reports -/

theorem reportBytes_header (r : Report) :
    (reportBytes r).extractLsb' 0 8 = reportType r.body ∧ (reportBytes r).extractLsb' 8 8 = r.kindCode ∧
    (reportBytes r).extractLsb' 16 16 = r.sequence ∧ (reportBytes r).extractLsb' 32 16 = r.tag ∧
    (reportBytes r).extractLsb' 48 8 = BitVec.ofNat 8 r.ring.val ∧
    (reportBytes r).extractLsb' 56 8 = reportStatus r.body ∧ (reportBytes r).extractLsb' 64 16 = r.ringHead := by
  simp only [reportBytes, extract_skip, extract_low, Nat.reduceSub, Nat.reduceLeDiff, and_self]

/-- Bytes 10 to 31 are those of the body. -/
theorem reportBytes_field (r : Report) {o : Nat} (k : Nat) (h : 80 ≤ o) :
    (reportBytes r).extractLsb' o k = (reportBodyBytes r.body).extractLsb' (o - 80) k := by
  unfold reportBytes
  rw [extract_skip, extract_skip, extract_skip, extract_skip, extract_skip, extract_skip, extract_skip]
  · rfl
  all_goals omega

theorem reportBytes_bit (r : Report) {o : Nat} (h : 80 ≤ o) :
    (reportBytes r).getLsbD o = (reportBodyBytes r.body).getLsbD (o - 80) := by
  unfold reportBytes
  rw [bit_skip, bit_skip, bit_skip, bit_skip, bit_skip, bit_skip, bit_skip]
  · rfl
  all_goals omega


theorem extract_of_zero (n o k : Nat) : BitVec.extractLsb' o k 0#n = 0 := by
  apply BitVec.eq_of_getLsbD_eq
  intro i hi
  simp only [BitVec.getLsbD_extractLsb', BitVec.getLsbD_zero, BitVec.ofNat_eq_ofNat, Bool.and_false]

theorem getLsbD_mark (p : Bool) : (if p then 1#8 else 0#8).getLsbD 0 = p := by
  cases p <;> rfl

/-- A byte that holds one mark is 0 above it. -/
theorem mark_upper (p : Bool) : (if p then 1#8 else 0#8).extractLsb' 1 7 = 0 := by
  cases p <;> rfl

/-- Settles O60: entries by the runs of their fields, and records, reports and events field by field; the code tables
are evaluated. -/
theorem entriesRecordsAndReportsHaveTheirBytes : Obligations.EntriesRecordsAndReportsHaveTheirBytes := by
  refine ⟨fun c b hwf hb b' h => decodeEntry_of_sameRuns hwf hb h, recordBytes_bytes, fun r => ?reports,
    fun e sequence eventsLost => ?events, rfl, rfl, rfl⟩
  case reports =>
    obtain ⟨htype, hkind, hsequence, htag, hring, hstatus, hhead⟩ := reportBytes_header r
    refine ⟨hkind, hsequence, htag, hring, hhead, ?_⟩
    obtain ⟨kindCode, tag, ring, body, inFlight, sequence, ringHead⟩ := r
    cases body with
    | progress address records retired =>
      refine ⟨htype, hstatus, ?_⟩
      simp (disch := decide) only [reportBytes_field, reportBodyBytes, extract_skip, extract_low,
        BitVec.extractLsb'_eq_self, BitVec.ofNat_eq_ofNat, Nat.reduceSub, and_self]
    | final status body =>
      refine ⟨htype, hstatus, ?_⟩
      cases body with
      | measurement seen faulted records unused lost written retired =>
        obtain ⟨hoverflow, hlow, hhigh, hedge, -, -⟩ := flagBits_bits seen false
        simp (disch := decide) only [reportBytes_field, reportBytes_bit, reportBodyBytes, finalBodyBytes, bit_skip,
          bit_low, hoverflow, hlow, hhigh, hedge, getLsbD_mark, extract_skip, extract_low,
          extract_inside _ _ _ (flagBits _ _), flagBits_upper, extract_inside _ _ _ (ite _ _ _), mark_upper,
          BitVec.extractLsb'_eq_self, BitVec.ofNat_eq_ofNat, Nat.reduceSub, and_self]
      | _ =>
        simp (disch := decide) only [reportBytes_field, reportBodyBytes, finalBodyBytes, extract_skip, extract_low,
          extract_of_zero, BitVec.extractLsb'_eq_self, BitVec.ofNat_eq_ofNat, Nat.reduceSub, and_self]
  case events =>
    cases e <;>
      simp (disch := decide) only [eventBytes, eventFieldBytes, eventCode, extract_skip, extract_low, extract_of_zero,
        BitVec.ofNat_eq_ofNat, Nat.reduceSub, and_self]

end Sys2Proof.Machine
end
